-- ==== Sys2Proof/Word.lean ====
section
/-! DEFINITION. The two word types of the block: `u8` and `u32` of 00_scope.md R8, and the three control
characters the rules name. Every integer of the block is unsigned (R13). -/

namespace Sys2Proof

/-- A byte of a stream, line, record or unit: the `u8` of 00_scope.md R8. -/
abbrev Byte := BitVec 8

/-- The `u32` of 00_scope.md R8. -/
abbrev U32 := BitVec 32

/-- Carriage return, `\r` (00_scope.md R8). -/
abbrev cr : Byte := 0x0D#8

/-- Line feed, `\n` (00_scope.md R8). -/
abbrev lf : Byte := 0x0A#8

/-- Bell, `\a` (00_scope.md R8). -/
abbrev bell : Byte := 0x07#8

end Sys2Proof
end

