-- ==== Sys2Proof/Syntax.lean ====
section
/-! DEFINITION. What the block executes: the canonical frame, the bit-timing record, the abstract control
commands, and `Instr`, one constructor per row of spec/opcode_table.json. -/

namespace Sys2Proof

/-- `BitTiming`, 10_state.md R32: four unsigned fields of 32 bits. -/
structure BitTiming where
  brp : U32
  tseg1 : U32
  tseg2 : U32
  sjw : U32
  deriving DecidableEq, Repr, Inhabited

/-- `CanFrame`, 10_state.md R24. The invariant and the canonical form of its bytes are `CanFrame.valid`. -/
structure CanFrame where
  id : U32
  extended : Bool
  remote : Bool
  dlc : Fin 9
  data : Vector Byte 8
  deriving DecidableEq, Repr, Inhabited

/-- A command on `CIN`, already decoded by the control-transfer layer (30_encoding.md R105). -/
inductive CtlCmd where
  /-- `HOST_FORMAT(v)`: an opaque value. -/
  | hostFormat (value : Nat)
  /-- `SET_BITTIMING(brp, tseg1, tseg2, sjw)`. -/
  | setBittiming (timing : BitTiming)
  | modeStart
  | modeStop
  | btConst
  | deviceConfig
  /-- Any command that is not one of the six. -/
  | other
  deriving DecidableEq, Repr

/-- The units, events and operations of spec/opcode_table.json.

A text line carries the bytes after `L[0]` as they came, since a line that does not decode is executed too: it
emits the error token (44_dispatch_and_forwarding.md R242). -/
inductive Instr where
  /-- `SL_t`: `t` line, data frame with a standard id (40_text_codec.md R130). -/
  | slDataStd (payload : List Byte)
  /-- `SL_T`: `T` line, data frame with an extended id (R131). -/
  | slDataExt (payload : List Byte)
  /-- `SL_r`: `r` line, remote frame with a standard id (R132). -/
  | slRemoteStd (payload : List Byte)
  /-- `SL_R`: `R` line, remote frame with an extended id (R133). -/
  | slRemoteExt (payload : List Byte)
  /-- `SL_O`: `O` line, open bus (R134). -/
  | slOpen (payload : List Byte)
  /-- `SL_C`: `C` line, close bus (R135). -/
  | slClose (payload : List Byte)
  /-- `SL_S`: `S` line, set bitrate (R136). -/
  | slSetBitrate (payload : List Byte)
  /-- `SL_V`: `V` line, hardware version query (R137). -/
  | slVersionHw (payload : List Byte)
  /-- `SL_v`: `v` line, software version query (R138). -/
  | slVersionSw (payload : List Byte)
  /-- `SL_UNKNOWN`: a line with any other first byte (R145, 30_encoding.md R97). -/
  | slUnknown (opcode : Byte) (payload : List Byte)
  /-- `DEC_HOSTFRAME`: decode one record (41_binary_codec.md R160). -/
  | decHostframe (bytes : List Byte)
  /-- `ENC_HOSTFRAME`: encode a frame with an echo tag (41_binary_codec.md R161). -/
  | encHostframe (frame : CanFrame) (tag : U32)
  /-- `ENC_SLCAN`: encode a frame as a line (40_text_codec.md R140). -/
  | encSlcan (frame : CanFrame)
  /-- `ACK`: the acknowledgment token (30_encoding.md R95). -/
  | ack
  /-- `NAK`: the error token (30_encoding.md R95). -/
  | nak
  /-- `VERHW`: the hardware version response (44_dispatch_and_forwarding.md R247). -/
  | verHw
  /-- `VERSW`: the software version response (R247). -/
  | verSw
  /-- `HOST_FORMAT` (R253). -/
  | hostFormat (value : Nat)
  /-- `SET_BITTIMING` (R254). -/
  | setBittiming (timing : BitTiming)
  /-- `MODE_START` (R255). -/
  | modeStart
  /-- `MODE_STOP` (R256). -/
  | modeStop
  /-- `BT_CONST` (R257). -/
  | btConst
  /-- `DEVICE_CONFIG` (R257). -/
  | deviceConfig
  /-- `CTL_OTHER`: a command that is none of the six (R258). -/
  | ctlOther
  /-- `EXEC_LINE`: execute one completed line (R240). -/
  | execLine (line : List Byte)
  /-- `EXEC_RECORD`: execute one extracted record (R248). -/
  | execRecord (bytes : List Byte)
  /-- `FRM_BYTE`: the text framer consumes one byte (42_framers.md R180). -/
  | frmByte (byte : Byte)
  /-- `FRM_PACKET`: the binary framer consumes one packet (42_framers.md R184). -/
  | frmPacket (packet : List Byte)
  /-- `CONFIGURE` (43_bus_state_machine.md R203). -/
  | configure (timing : BitTiming)
  /-- `CMD_CLOSE` (R204). -/
  | cmdClose
  /-- `CMD_OPEN` (R205). -/
  | cmdOpen
  /-- `TX_GATE` (R206). -/
  | txGate (frame : CanFrame)
  /-- `EV_BUSOFF` (R210). -/
  | evBusoff
  /-- `REC_START` (R211). -/
  | recStart
  /-- `EV_REC_DONE` (R212). -/
  | evRecDone
  /-- `EV_REC_TIMEOUT` (R213). -/
  | evRecTimeout
  /-- `EV_FATAL` (R215). -/
  | evFatal
  /-- `CMD_CHECK` (R216). -/
  | cmdCheck
  /-- `EV_BUS_RX` (44_dispatch_and_forwarding.md R260). -/
  | evBusRx (frame : CanFrame)
  /-- `HTX_POP` (R262). -/
  | htxPop
  deriving DecidableEq, Repr

end Sys2Proof
end

