-- ==== Sys2Proof/Config.lean ====
section
/-! DEFINITION. The parameters of 00_scope.md R6 and R7 that are not fixed by the spec, as one record that a run
carries unchanged, and the opaque constants: the open parameters of the run that starts at reset, and the free draws
of the transceiver driver (43_bus_state_machine.md R201). -/

namespace Sys2Proof

/-- `PROTO`, fixed for a whole run (00_scope.md R7). -/
inductive Proto where
  | text
  | binary
  deriving DecidableEq, Repr, Inhabited

/-- `HF_LAYOUT` (30_encoding.md R98). -/
inductive HfLayout where
  | packed17
  | gsusb20
  deriving DecidableEq, Repr, Inhabited

/-- `FALLBACK_POLICY` (44_dispatch_and_forwarding.md R246). -/
inductive Fallback where
  | reject
  | legacyDowngrade
  deriving DecidableEq, Repr, Inhabited

/-- The answer set of `drv.install` and `drv.start` (43_bus_state_machine.md R201). -/
inductive DrvResult where
  | ok
  | fail
  deriving DecidableEq, Repr, Inhabited

/-- The answer set of `drv.transmit` (43_bus_state_machine.md R201). -/
inductive TxResult where
  | ok
  | timeout
  | error
  deriving DecidableEq, Repr, Inhabited

/-- The parameters a run fixes. `TIMING_TABLE` is split so that entry 8 is always present (00_scope.md R7). -/
structure Config where
  proto : Proto
  hfLayout : HfLayout
  fallback : Fallback
  /-- `TIMING_TABLE[0..7]`. -/
  timingLow : Vector (Option BitTiming) 8
  /-- `TIMING_TABLE[8]`, the 1 Mbit/s timing. -/
  timing8 : BitTiming
  verHw : Vector Byte 4
  verSw : Vector Byte 4
  btConstBlob : List Byte
  deviceConfigBlob : List Byte
  pktMax : Nat
  txTimeoutMs : Nat
  /-- `RX_POLL_TIMEOUT`: no rule depends on it (43_bus_state_machine.md R208). -/
  rxPollTimeout : Nat
  /-- `CTL_CODE_*`, in the order of 30_encoding.md R105: no rule depends on them (93 U14). -/
  ctlCodes : Vector Nat 6
  deriving DecidableEq, Repr

/-- A first byte of a version code: not `\r`, not `\a` (70_reset_and_hazards.md R336). -/
def versionHeadOk (b : Byte) : Bool := b != cr && b != bell

/-- The ranges 00_scope.md R6, R7 and 70_reset_and_hazards.md R336 put on the parameters. -/
def Config.wf (c : Config) : Bool :=
  decide (1 ≤ c.pktMax) && decide (10 ≤ c.txTimeoutMs) && decide (c.txTimeoutMs ≤ 100) &&
    versionHeadOk c.verHw[0] && versionHeadOk c.verSw[0]

/-! ### Open parameters of the run that starts at reset (DESIGN CHOICE, log 7): no value is known of them -/

opaque Config.openProto : Proto
opaque Config.openTimingLow : Vector (Option BitTiming) 8
opaque Config.openTiming8 : BitTiming
opaque Config.openVerHwHead : Fin 254
opaque Config.openVerHwTail : Vector Byte 3
opaque Config.openVerSwHead : Fin 254
opaque Config.openVerSwTail : Vector Byte 3
opaque Config.openBtConst : List Byte
opaque Config.openDeviceConfig : List Byte
opaque Config.openPktExtra : Nat
opaque Config.openTxWait : Fin 91
opaque Config.openRxPoll : Nat
opaque Config.openCtlCodes : Vector Nat 6

/-- The `i`-th byte that a version code may start with: all of 0..255 but 0x07 and 0x0D. -/
def versionHead (i : Fin 254) : Byte :=
  if i.val < 7 then BitVec.ofNat 8 i.val
  else if i.val < 12 then BitVec.ofNat 8 (i.val + 1)
  else BitVec.ofNat 8 (i.val + 2)

/-- The configuration of the run that starts at reset: the spec's defaults (`packed17`, `Reject`, 00_scope.md R7)
and, for what it leaves open, the opaque constants above within the ranges the spec states. -/
def Config.atReset : Config where
  proto := Config.openProto
  hfLayout := .packed17
  fallback := .reject
  timingLow := Config.openTimingLow
  timing8 := Config.openTiming8
  verHw := #v[versionHead Config.openVerHwHead, Config.openVerHwTail[0], Config.openVerHwTail[1],
    Config.openVerHwTail[2]]
  verSw := #v[versionHead Config.openVerSwHead, Config.openVerSwTail[0], Config.openVerSwTail[1],
    Config.openVerSwTail[2]]
  btConstBlob := Config.openBtConst
  deviceConfigBlob := Config.openDeviceConfig
  pktMax := 1 + Config.openPktExtra
  txTimeoutMs := 10 + Config.openTxWait.val
  rxPollTimeout := Config.openRxPoll
  ctlCodes := Config.openCtlCodes

/-! ### Free values: the driver's answer to its `n`-th call, where the run's environment has given none (log 6) -/

opaque Config.freeInstall : Nat → DrvResult
opaque Config.freeStart : Nat → DrvResult
opaque Config.freeTransmit : Nat → TxResult

end Sys2Proof
end

