-- ==== Sys2Proof/WellFormed.lean ====
section
/-! DEFINITION. Which operands exist in the block: valid frames (10_state.md R24), lines the framer can deliver
(40_text_codec.md R139), records of one of the two sizes (30_encoding.md R98), packets with at least one byte
(42_framers.md R184). -/

namespace Sys2Proof

/-- One more than the largest identifier of the frame's kind (10_state.md R24). -/
def idLimit (extended : Bool) : Nat := if extended then 2 ^ 29 else 2 ^ 11

/-- 10_state.md R24, the canonical form: bytes at `dlc` and above are 0, all of them in a remote frame. -/
def CanFrame.canonical (f : CanFrame) : Bool :=
  decide (∀ i : Fin 8, f.remote = true ∨ f.dlc.val ≤ i.val → f.data[i.val] = 0#8)

/-- 10_state.md R24: a **valid frame** meets the id range and the canonical form (`dlc ≤ 8` by its type). -/
def CanFrame.valid (f : CanFrame) : Bool :=
  decide (f.id.toNat < idLimit f.extended) && f.canonical

/-- A character the framer keeps: no terminator (42_framers.md R187). -/
def isLineChar (b : Byte) : Bool := b != cr && b != lf

/-- 30_encoding.md R96: the nine text opcodes. -/
def isTextOpcode (b : Byte) : Bool :=
  [0x74#8, 0x54#8, 0x72#8, 0x52#8, 0x4F#8, 0x43#8, 0x53#8, 0x56#8, 0x76#8].contains b

/-- A line the framer can deliver: 1 to 128 bytes, no terminator in it (40_text_codec.md R139). -/
def deliverableLine (line : List Byte) : Bool :=
  decide (1 ≤ line.length) && decide (line.length ≤ 128) && line.all isLineChar

/-- What may follow `L[0]` in a deliverable line. -/
def deliverablePayload (payload : List Byte) : Bool :=
  decide (payload.length ≤ 127) && payload.all isLineChar

/-- A record of one of the two layouts' sizes (30_encoding.md R98). -/
def isRecord (bytes : List Byte) : Bool :=
  bytes.length == 17 || bytes.length == 20

/-- The operands of an instruction are ones the block can meet. -/
def Instr.wellFormed : Instr → Bool
  | .slDataStd p | .slDataExt p | .slRemoteStd p | .slRemoteExt p => deliverablePayload p
  | .slOpen p | .slClose p | .slSetBitrate p | .slVersionHw p | .slVersionSw p => deliverablePayload p
  | .slUnknown b p => !isTextOpcode b && isLineChar b && deliverablePayload p
  | .decHostframe r | .execRecord r => isRecord r
  | .encHostframe f _ | .encSlcan f | .txGate f | .evBusRx f => f.valid
  | .execLine l => deliverableLine l
  | .frmPacket p => decide (1 ≤ p.length)
  | .ack | .nak | .verHw | .verSw => true
  | .hostFormat _ | .setBittiming _ | .modeStart | .modeStop | .btConst | .deviceConfig | .ctlOther => true
  | .frmByte _ | .configure _ | .cmdClose | .cmdOpen => true
  | .evBusoff | .recStart | .evRecDone | .evRecTimeout | .evFatal | .cmdCheck | .htxPop => true

end Sys2Proof
end

