-- ==== Sys2Proof/Decode.lean ====
section
/-! DEFINITION. The two codecs (40_text_codec.md, 41_binary_codec.md), which are pure functions, and the map between
wire units and `Instr`: a total decoder that rejects by name, the encoder after it, and the host's view of the
decoder, `decodeTableWord`. -/

namespace Sys2Proof

/-! ### Hexadecimal digits (00_scope.md R8) -/

/-- `ishex(c)`. -/
def isHex (c : Byte) : Bool :=
  (0x30#8 ≤ c && c ≤ 0x39#8) || (0x41#8 ≤ c && c ≤ 0x46#8) || (0x61#8 ≤ c && c ≤ 0x66#8)

/-- `hexval(c)`, where `ishex(c)`. -/
def hexVal (c : Byte) : Nat :=
  if c ≤ 0x39#8 then c.toNat - 0x30
  else if c ≤ 0x46#8 then c.toNat - 0x41 + 10
  else c.toNat - 0x61 + 10

/-- `HEXDIGIT(n)` for `n` in 0..15. -/
def hexDigit (n : Nat) : Byte :=
  if n ≤ 9 then BitVec.ofNat 8 (0x30 + n) else BitVec.ofNat 8 (0x41 + n - 10)

/-- `HEX_k(v)`: `k` uppercase digits, most significant first. -/
def hexK : Nat → Nat → List Byte
  | 0, _ => []
  | k + 1, v => hexDigit (v / 16 ^ k % 16) :: hexK k v

/-- The weighted sum of hex digits, most significant first (00_scope.md R13). -/
def hexSum : List Byte → Nat
  | [] => 0
  | c :: cs => hexVal c * 16 ^ cs.length + hexSum cs

/-- Byte `i` of a sequence; no rule reads an index at or above the length. -/
def byteAt (bytes : List Byte) (i : Nat) : Byte := bytes.getD i 0#8

/-- Eight data bytes given by index. -/
def dataOf (g : Nat → Byte) : Vector Byte 8 := #v[g 0, g 1, g 2, g 3, g 4, g 5, g 6, g 7]

/-! ### Text codec: results (40_text_codec.md R139) -/

/-- `Command`. -/
inductive Command where
  | openBus
  | closeBus
  | setBitrate (code : Fin 9)
  | versionHw
  | versionSw
  deriving DecidableEq, Repr

/-- `Decoded`. -/
inductive Decoded where
  | frame (frame : CanFrame)
  | control (command : Command)
  deriving DecidableEq, Repr

/-- `ParseErr`, 60_exceptions.md R291. -/
inductive ParseErr where
  | truncated
  | badHex
  | badDlc
  | unknownOpcode
  | tooLong
  | idRange
  | badBitrate
  deriving DecidableEq, Repr

/-- `Result<Decoded, ParseErr>`. -/
inductive ParseResult where
  | ok (decoded : Decoded)
  | err (error : ParseErr)
  deriving DecidableEq, Repr

/-! ### Text codec: decoding -/

/-- The length a frame line must have (40_text_codec.md R141 step 6). -/
def frameLineLength (w : Nat) (rtr : Bool) (d : Nat) : Nat := 1 + w + 1 + (if rtr then 0 else 2 * d)

/-- `data[i]` of a data line with dlc `d`: two digits, high nibble first (30_encoding.md R102). -/
def lineData (line : List Byte) (w d : Nat) (rtr : Bool) (i : Nat) : Byte :=
  if rtr = false ∧ i < d then
    BitVec.ofNat 8 (16 * hexVal (byteAt line (2 + w + 2 * i)) + hexVal (byteAt line (3 + w + 2 * i)))
  else 0#8

/-- `dec_frame_line(L, w, ext, rtr)`: the checks of 40_text_codec.md R141 in their order. -/
def decFrameLine (line : List Byte) (w : Nat) (ext rtr : Bool) : ParseResult :=
  let idDigits := (line.drop 1).take w
  let d := hexVal (byteAt line (1 + w))
  if line.length < 1 + w + 1 then .err .truncated
  else if !idDigits.all isHex then .err .badHex
  else if !isHex (byteAt line (1 + w)) then .err .badHex
  else if h : 8 < d then .err .badDlc
  else if idLimit ext ≤ hexSum idDigits then .err .idRange
  else if line.length < frameLineLength w rtr d then .err .truncated
  else if frameLineLength w rtr d < line.length then .err .tooLong
  else if !(line.drop (2 + w)).all isHex then .err .badHex
  else .ok (.frame
    { id := BitVec.ofNat 32 (hexSum idDigits)
      extended := ext
      remote := rtr
      dlc := ⟨d, by omega⟩
      data := dataOf (lineData line w d rtr) })

/-- `SL_t`, 40_text_codec.md R130. -/
def decDataStd (line : List Byte) : ParseResult := decFrameLine line 3 false false

/-- `SL_T`, 40_text_codec.md R131. -/
def decDataExt (line : List Byte) : ParseResult := decFrameLine line 8 true false

/-- `SL_r`, 40_text_codec.md R132. -/
def decRemoteStd (line : List Byte) : ParseResult := decFrameLine line 3 false true

/-- `SL_R`, 40_text_codec.md R133. -/
def decRemoteExt (line : List Byte) : ParseResult := decFrameLine line 8 true true

/-- A control line without argument (30_encoding.md R93, format `SLC-0`). -/
def decBareControl (command : Command) (line : List Byte) : ParseResult :=
  if 1 < line.length then .err .tooLong else .ok (.control command)

/-- `SL_O`, 40_text_codec.md R134. -/
def decOpen (line : List Byte) : ParseResult := decBareControl .openBus line

/-- `SL_C`, 40_text_codec.md R135. -/
def decClose (line : List Byte) : ParseResult := decBareControl .closeBus line

/-- `SL_S`, 40_text_codec.md R136. -/
def decSetBitrate (line : List Byte) : ParseResult :=
  let c := byteAt line 1
  if line.length < 2 then .err .truncated
  else if 2 < line.length then .err .tooLong
  else if h : 0x30 ≤ c.toNat ∧ c.toNat ≤ 0x38 then
    .ok (.control (.setBitrate ⟨c.toNat - 0x30, by omega⟩))
  else .err .badBitrate

/-- `SL_V`, 40_text_codec.md R137. -/
def decVersionHw (line : List Byte) : ParseResult := decBareControl .versionHw line

/-- `SL_v`, 40_text_codec.md R138. -/
def decVersionSw (line : List Byte) : ParseResult := decBareControl .versionSw line

/-- A line whose first byte is no text opcode (40_text_codec.md R145). -/
def decUnknown (_line : List Byte) : ParseResult := .err .unknownOpcode

/-- `decode_slcan`, 40_text_codec.md R145; on `[]` as R145 allows. -/
def decodeSlcan (line : List Byte) : ParseResult :=
  match line with
  | [] => .err .unknownOpcode
  | op :: _ =>
    if op = 0x74#8 then decDataStd line
    else if op = 0x54#8 then decDataExt line
    else if op = 0x72#8 then decRemoteStd line
    else if op = 0x52#8 then decRemoteExt line
    else if op = 0x4F#8 then decOpen line
    else if op = 0x43#8 then decClose line
    else if op = 0x53#8 then decSetBitrate line
    else if op = 0x56#8 then decVersionHw line
    else if op = 0x76#8 then decVersionSw line
    else decUnknown line

/-! ### Text codec: encoding -/

/-- The opcode letter the flags select (40_text_codec.md R140). -/
def frameOpcode (f : CanFrame) : Byte :=
  match f.extended, f.remote with
  | true, true => 0x52#8
  | true, false => 0x54#8
  | false, true => 0x72#8
  | false, false => 0x74#8

/-- Hex digits of an identifier (00_scope.md R6, `SL_IDW_STD` and `SL_IDW_EXT`). -/
def idWidth (ext : Bool) : Nat := if ext then 8 else 3

/-- The data digits of an encoded line: none for a remote frame (40_text_codec.md R140). -/
def dataDigits (f : CanFrame) : List Byte :=
  if f.remote then [] else (f.data.toList.take f.dlc.val).flatMap (fun b => hexK 2 b.toNat)

/-- `encode_slcan(f)`, 40_text_codec.md R140. -/
def encodeSlcan (f : CanFrame) : List Byte :=
  [frameOpcode f] ++ hexK (idWidth f.extended) f.id.toNat ++ [hexDigit f.dlc.val] ++ dataDigits f ++ [cr]

/-! ### Binary codec -/

/-- `HF_SIZE` (30_encoding.md R98). -/
def hfSize : HfLayout → Nat
  | .packed17 => 17
  | .gsusb20 => 20

/-- `OFF_ECHO` (00_scope.md R7). -/
def offEcho : Nat := 0

/-- `OFF_CANID` (00_scope.md R7). -/
def offCanId : Nat := 4

/-- `OFF_DLC` (00_scope.md R7). -/
def offDlc : Nat := 8

/-- `OFF_DATA` (00_scope.md R7). -/
def offData : HfLayout → Nat
  | .packed17 => 9
  | .gsusb20 => 12

/-- `HF_ECHO_SENTINEL` (00_scope.md R6). -/
def echoSentinel : U32 := 0xFFFFFFFF#32

/-- `MemRead(addr, n)` on a record: `n` bytes, little-endian (00_scope.md R9). -/
def memRead (bytes : List Byte) (addr : Nat) : Nat → Nat
  | 0 => 0
  | n + 1 => (byteAt bytes addr).toNat + 256 * memRead bytes (addr + 1) n

/-- `MemWrite(addr, n, v)` on a record: the `n` low bytes of `v`, little-endian (00_scope.md R9). -/
def memWrite (bytes : List Byte) (addr : Nat) : Nat → Nat → List Byte
  | 0, _ => bytes
  | n + 1, v => memWrite (bytes.set addr (BitVec.ofNat 8 (v % 256))) (addr + 1) n (v / 256)

/-- The `can_id` field of a record. -/
def recCanId (bytes : List Byte) : U32 := BitVec.ofNat 32 (memRead bytes offCanId 4)

/-- `can_dlc` clamped to 8 (41_binary_codec.md R160). -/
def recDlc (bytes : List Byte) : Fin 9 := ⟨min (memRead bytes offDlc 1) 8, by omega⟩

/-- `decode_hostframe`, 41_binary_codec.md R160. -/
def decodeHostframe (lay : HfLayout) (bytes : List Byte) : CanFrame :=
  let c := recCanId bytes
  let ext := c.getLsbD 31
  { id := if ext then (c.extractLsb 28 0).setWidth 32 else (c.extractLsb 10 0).setWidth 32
    extended := ext
    remote := false
    dlc := recDlc bytes
    data := dataOf fun i =>
      if i < (recDlc bytes).val then BitVec.ofNat 8 (memRead bytes (offData lay + i) 1) else 0#8 }

/-- `hostframe_wellformed`, 41_binary_codec.md R162. -/
def hostframeWellformed (bytes : List Byte) : Bool :=
  let c := recCanId bytes
  c.extractLsb 30 29 == 0#2 && (c.getLsbD 31 || c.extractLsb 28 11 == 0#18) && decide (memRead bytes offDlc 1 ≤ 8)

/-- Writes the first `n` data bytes of a record. -/
def writeData (lay : HfLayout) (f : CanFrame) : Nat → List Byte → List Byte
  | 0, bytes => bytes
  | n + 1, bytes => memWrite (writeData lay f n bytes) (offData lay + n) 1 (byteAt f.data.toList n).toNat

/-- `encode_hostframe`, 41_binary_codec.md R161. -/
def encodeHostframe (lay : HfLayout) (f : CanFrame) (tag : U32) : List Byte :=
  let r0 := List.replicate (hfSize lay) 0#8
  let r1 := memWrite r0 offEcho 4 tag.toNat
  let r2 := memWrite r1 offCanId 4 (f.id.toNat + if f.extended then 2 ^ 31 else 0)
  let r3 := memWrite r2 offDlc 1 f.dlc.val
  writeData lay f 8 r3

/-! ### Wire units and instructions -/

/-- Where a unit's bytes stand: a framed line, a record of the Binary data stream, a token or a version response on
`HOUT` (30_encoding.md R90). -/
inductive Port where
  | line
  | record
  | token
  | version
  deriving DecidableEq, Repr

/-- Why bytes are no unit of a port. -/
inductive DecodeErr where
  /-- An empty line: the framer never delivers one (42_framers.md R181). Safe. -/
  | emptyLine
  /-- Not the size of a record in the layout (30_encoding.md R98). Safe. -/
  | recordSize
  /-- Neither of the two tokens (30_encoding.md R95). Safe. -/
  | notToken
  /-- Neither of the two version responses (30_encoding.md R95). Safe. -/
  | notVersion
  deriving DecidableEq, Repr

/-- The instruction a line's first byte selects (30_encoding.md R96, R97). -/
def selectOpcode (op : Byte) (payload : List Byte) : Instr :=
  if op = 0x74#8 then .slDataStd payload
  else if op = 0x54#8 then .slDataExt payload
  else if op = 0x72#8 then .slRemoteStd payload
  else if op = 0x52#8 then .slRemoteExt payload
  else if op = 0x4F#8 then .slOpen payload
  else if op = 0x43#8 then .slClose payload
  else if op = 0x53#8 then .slSetBitrate payload
  else if op = 0x56#8 then .slVersionHw payload
  else if op = 0x76#8 then .slVersionSw payload
  else .slUnknown op payload

/-- A framed line. -/
def decodeLine : List Byte → Except DecodeErr Instr
  | [] => .error .emptyLine
  | op :: payload => .ok (selectOpcode op payload)

/-- A record of the Binary data stream: there are no discriminating bits (opcode table, `DEC_HOSTFRAME`). -/
def decodeRecord (lay : HfLayout) (bytes : List Byte) : Except DecodeErr Instr :=
  if bytes.length = hfSize lay then .ok (.decHostframe bytes) else .error .recordSize

/-- A token (30_encoding.md R95). -/
def decodeToken (bytes : List Byte) : Except DecodeErr Instr :=
  if bytes = [cr] then .ok .ack
  else if bytes = [bell] then .ok .nak
  else .error .notToken

/-- `VER_HW[0..4] ++ 0D`, `VER_SW[0..4] ++ 0D` (30_encoding.md R95). -/
def versionUnit (code : Vector Byte 4) : List Byte := code.toList ++ [cr]

/-- A version response; where the two codes are the same bytes, the hardware one. -/
def decodeVersion (c : Config) (bytes : List Byte) : Except DecodeErr Instr :=
  if bytes = versionUnit c.verHw then .ok .verHw
  else if bytes = versionUnit c.verSw then .ok .verSw
  else .error .notVersion

/-- The decoder: total on any bytes, rejecting by name. -/
def decode (c : Config) (port : Port) (bytes : List Byte) : Except DecodeErr Instr :=
  match port with
  | .line => decodeLine bytes
  | .record => decodeRecord c.hfLayout bytes
  | .token => decodeToken bytes
  | .version => decodeVersion c bytes

/-- The encoder: the port and the bytes of an instruction that has an encoding (30_encoding.md R90 to R98);
`none` for the abstract commands, events and internal operations (R105, R108). -/
def encode (c : Config) : Instr → Option (Port × List Byte)
  | .slDataStd p => some (.line, 0x74#8 :: p)
  | .slDataExt p => some (.line, 0x54#8 :: p)
  | .slRemoteStd p => some (.line, 0x72#8 :: p)
  | .slRemoteExt p => some (.line, 0x52#8 :: p)
  | .slOpen p => some (.line, 0x4F#8 :: p)
  | .slClose p => some (.line, 0x43#8 :: p)
  | .slSetBitrate p => some (.line, 0x53#8 :: p)
  | .slVersionHw p => some (.line, 0x56#8 :: p)
  | .slVersionSw p => some (.line, 0x76#8 :: p)
  | .slUnknown b p => some (.line, b :: p)
  | .decHostframe r => if r.length = hfSize c.hfLayout then some (.record, r) else none
  | .ack => some (.token, [cr])
  | .nak => some (.token, [bell])
  | .verHw => some (.version, versionUnit c.verHw)
  | .verSw => some (.version, versionUnit c.verSw)
  | .encHostframe _ _ | .encSlcan _ => none
  | .hostFormat _ | .setBittiming _ | .modeStart | .modeStop | .btConst | .deviceConfig | .ctlOther => none
  | .execLine _ | .execRecord _ | .frmByte _ | .frmPacket _ => none
  | .configure _ | .cmdClose | .cmdOpen | .txGate _ => none
  | .evBusoff | .recStart | .evRecDone | .evRecTimeout | .evFatal | .cmdCheck | .evBusRx _ | .htxPop => none

/-! ### The host's view: a number whose bit 0 is the least significant bit of the first byte -/

/-- The `n` low bytes of `w`, the first byte least significant. -/
def tableBytes : Nat → Nat → List Byte
  | 0, _ => []
  | n + 1, w => BitVec.ofNat 8 (w % 256) :: tableBytes n (w / 256)

/-- The shortest length a line with this first byte can be valid at (30_encoding.md R92, R93). -/
def leastLength (op : Byte) : Nat :=
  if op = 0x74#8 ∨ op = 0x72#8 then 5
  else if op = 0x54#8 ∨ op = 0x52#8 then 10
  else if op = 0x53#8 then 2
  else 1

/-- The unit of the opcode table whose low `nbits` are `w`, with zero bytes up to its least length (log 11). -/
def tableUnit (nbits w : Nat) : List Byte :=
  let bytes := tableBytes ((nbits + 7) / 8) w
  bytes ++ List.replicate (leastLength (byteAt bytes 0) - bytes.length) 0#8

/-- A unit of the Text protocol in either direction: a token as a token, anything else as a line (log 11). -/
def decodeTextUnit (bytes : List Byte) : Option Instr :=
  match decodeToken bytes with
  | .ok i => some i
  | .error _ =>
    match decodeLine bytes with
    | .ok i => some i
    | .error _ => none

/-- What the decoder reads from the opcode table's word (the host's numbering of bits). -/
def decodeTableWord (nbits w : Nat) : Option Instr := decodeTextUnit (tableUnit nbits w)

end Sys2Proof
end

