-- ==== Sys2Proof/Machine/State.lean ====
section
/-! DEFINITION. The state of the block (10_state.md), its reset value (70_reset_and_hazards.md R330), and the reasons
a step can stop. -/

namespace Sys2Proof.Machine

/-- `BUS_STATE`, 10_state.md R30, in the order of its two-bit encoding. -/
inductive BusState where
  | closed
  | opened
  | busOff
  | recovering
  deriving DecidableEq, Repr

/-- `REC_RESULT`, 10_state.md R36. -/
inductive RecResult where
  | none
  | ok
  | timeout
  deriving DecidableEq, Repr

/-- `ControllerErr`, 60_exceptions.md R293, in the order of 10_state.md R20. -/
inductive ControllerErr where
  | installFailed
  | startFailed
  | recoveryTimeout
  | notConfigured
  | fatal
  deriving DecidableEq, Repr

/-- `TxErr`, 60_exceptions.md R292. -/
inductive TxErr where
  | notOpen
  | timeout
  | driver
  deriving DecidableEq, Repr

/-- `Result<(), TxErr>` of `transmit`, 43_bus_state_machine.md R206. -/
inductive TxOutcome where
  | ok
  | err (error : TxErr)
  deriving DecidableEq, Repr

/-- `Result<(), ControllerErr>` of the controller operations, 43_bus_state_machine.md R203 to R205. -/
inductive CtlOutcome where
  | ok
  | err (error : ControllerErr)
  deriving DecidableEq, Repr

/-- A response on `COUT`, 44_dispatch_and_forwarding.md R252. -/
inductive CtlResp where
  | ack
  | err (error : ControllerErr)
  | data (bytes : List Byte)
  | unknown
  deriving DecidableEq, Repr

/-- A call to the transceiver driver, 43_bus_state_machine.md R201. -/
inductive DrvCall where
  | install (timing : BitTiming)
  | start
  | stop
  | uninstall
  | transmit (frame : CanFrame) (timeoutMs : Nat)
  | initiateRecovery
  deriving DecidableEq, Repr

/-- An installed driver instance: the timing it was installed with, and whether it is started (10_state.md R30, R31). -/
structure DrvInstance where
  timing : BitTiming
  started : Bool
  deriving DecidableEq, Repr

/-- The environment's answers to one kind of driver call (log 6): those it has given, in order, and how many have been
taken; where none is given the answer is a free value. -/
structure Answers (α : Type) where
  given : List α
  taken : Nat
  deriving DecidableEq, Repr

/-- The result an operation ended with (00_scope.md R9, `return` and `raise`; log 5). -/
inductive Ret where
  /-- The operation returns nothing. -/
  | none
  | decoded (result : ParseResult)
  | frame (frame : CanFrame)
  | bytes (unit : List Byte)
  | tx (outcome : TxOutcome)
  | ctl (outcome : CtlOutcome)
  deriving DecidableEq, Repr

/-- Whose step comes next (00_scope.md R11; log 2): `HRX` and `CTL` take their unit from a stream; every other step is
named by its operation. -/
inductive Turn where
  | hrx
  | ctl
  | op (instr : Instr)
  deriving DecidableEq, Repr

/-- The state of the block. INVENTORY.md lists the rule and the reset value of each field. -/
structure State where
  /-- The run's parameters, 00_scope.md R6 and R7: no step changes them. -/
  cfg : Config
  /-- `LB[0 .. LB_LEN]`; `LB_LEN` is its length (10_state.md R26, 93 U17). -/
  lb : List Byte
  /-- `RB` (10_state.md R27). -/
  rb : List Byte
  /-- `BUS_STATE` (10_state.md R30). -/
  busState : BusState
  /-- `BT` (10_state.md R32). -/
  bt : BitTiming
  /-- `BT_VALID` (10_state.md R33). -/
  btValid : Bool
  /-- `REC_REQ` (10_state.md R35). -/
  recReq : Bool
  /-- `REC_RESULT` (10_state.md R36). -/
  recResult : RecResult
  /-- `CTRL_ERR` (10_state.md R37); `none` is its value `None`. -/
  ctrlErr : Option ControllerErr
  /-- `WARN_FALLBACK` (10_state.md R38). -/
  warnFallback : Bool
  /-- `OQ`, head first (10_state.md R40). -/
  oq : List (List Byte)
  /-- `RX_DROP_CNT` (10_state.md R46). -/
  rxDropCnt : U32
  /-- `TX_DROP_CNT` (10_state.md R46). -/
  txDropCnt : U32
  /-- `HF_DEFECT` (10_state.md R47). -/
  hfDefect : Bool
  /-- `HIN` of the Text protocol: bytes delivered and not yet consumed (10_state.md R42). -/
  hinText : List Byte
  /-- `HIN` of the Binary protocol: packets delivered and not yet consumed (10_state.md R42). -/
  hinBin : List (List Byte)
  /-- `HOUT`, oldest first (10_state.md R43). -/
  hout : List (List Byte)
  /-- `CIN`: commands not yet taken (10_state.md R44). -/
  cin : List CtlCmd
  /-- `COUT`, oldest first (10_state.md R44). -/
  cout : List CtlResp
  /-- The transceiver driver instance, if installed (10_state.md R30, R31; 70_reset_and_hazards.md R330). -/
  inst : Option DrvInstance
  /-- The recovery timer is running (10_state.md R30; 70_reset_and_hazards.md R330). -/
  recTimer : Bool
  /-- The driver calls made, oldest first (43_bus_state_machine.md R201). -/
  drvLog : List DrvCall
  /-- The model's own: answers to `drv.install` (log 6). -/
  ansInstall : Answers DrvResult
  /-- The model's own: answers to `drv.start` (log 6). -/
  ansStart : Answers DrvResult
  /-- The model's own: answers to `drv.transmit` (log 6). -/
  ansTransmit : Answers TxResult
  /-- The model's own: whose step comes next (log 2). -/
  turns : List Turn
  /-- The model's own: the result of the last operation (log 5). -/
  ret : Ret
  deriving DecidableEq, Repr

/-- Why an operation cannot be performed: the spec says its step is **not enabled** in this state. `exec` raises them;
all are safe: `step` lets the turn pass, since "an agent with no enabled step simply does not step"
(60_exceptions.md R312; log 4). -/
inductive Fault where
  /-- Raised by Text units while `PROTO` is `Binary` (42_framers.md R180, 30_encoding.md R90, R95). Safe. -/
  | onlyText
  /-- Raised by Binary units and control commands while `PROTO` is `Text` (42_framers.md R184,
  44_dispatch_and_forwarding.md R252). Safe. -/
  | onlyBinary
  /-- Raised by `REC_START` unless `BUS_STATE = BusOff` and `REC_REQ = 1` (43_bus_state_machine.md R211). Safe. -/
  | noRecoveryRequested
  /-- Raised by `EV_REC_TIMEOUT` unless `BUS_STATE = Recovering` (43_bus_state_machine.md R213). Safe. -/
  | notRecovering
  /-- Raised by `EV_BUS_RX` while `BUS_STATE = Closed` (44_dispatch_and_forwarding.md R260). Safe. -/
  | noInstance
  /-- Raised by `HTX_POP` while `OQ` is empty (44_dispatch_and_forwarding.md R262). Safe. -/
  | queueEmpty
  deriving DecidableEq, Repr

/-- Why the model has no meaning to give. All are safe: the run stops. -/
inductive Refusal where
  /-- Raised by an arm of `exec` whose instruction has no meaning yet. Safe. -/
  | notModelled (mnemonic : String)
  /-- Raised by `step` for a turn whose operand "does not exist in the block" (40_text_codec.md R140), such as an
  invalid frame; see `Instr.wellFormed`. Safe. -/
  | illFormed
  /-- Raised by the record operations on an operand that is not `HF_SIZE` bytes (41_binary_codec.md R160). Safe. -/
  | recordSize
  deriving DecidableEq, Repr

/-- What every meaning answers. -/
abbrev Result := Host.Outcome State Fault Refusal

/-- No answer given, none taken. -/
def Answers.fresh {α : Type} : Answers α := { given := [], taken := 0 }

/-- The state right after reset, 70_reset_and_hazards.md R330. `bt` is unspecified there and holds zeros (log 8). -/
def State.reset : State where
  cfg := Config.atReset
  lb := []
  rb := []
  busState := .closed
  bt := { brp := 0, tseg1 := 0, tseg2 := 0, sjw := 0 }
  btValid := false
  recReq := false
  recResult := .none
  ctrlErr := none
  warnFallback := false
  oq := []
  rxDropCnt := 0
  txDropCnt := 0
  hfDefect := false
  hinText := []
  hinBin := []
  hout := []
  cin := []
  cout := []
  inst := none
  recTimer := false
  drvLog := []
  ansInstall := Answers.fresh
  ansStart := Answers.fresh
  ansTransmit := Answers.fresh
  turns := []
  ret := .none

end Sys2Proof.Machine
end

