-- ==== Sys2Proof/Machine/Flags.lean ====
section
/-! DEFINITION. Every flag, counter and status register the operations write, and the numeric encodings of the
enumerated registers (10_state.md R25, R30, R33, R37, R38, R46, R47; 60_exceptions.md R290). -/

namespace Sys2Proof.Machine

/-- `HF_DEFECT <- 1` (10_state.md R47). -/
def State.setDefect (s : State) : State := { s with hfDefect := true }

/-- `WARN_FALLBACK <- 1` (10_state.md R38). -/
def State.setWarn (s : State) : State := { s with warnFallback := true }

/-- `TX_DROP_CNT <- (TX_DROP_CNT + 1) mod 2^32` (10_state.md R46). -/
def State.countTxDrop (s : State) : State := { s with txDropCnt := s.txDropCnt + 1 }

/-- `RX_DROP_CNT <- (RX_DROP_CNT + 1) mod 2^32` (10_state.md R46). -/
def State.countRxDrop (s : State) : State := { s with rxDropCnt := s.rxDropCnt + 1 }

/-- `BT <- t ; BT_VALID <- 1` (10_state.md R32, R33). -/
def State.writeTiming (s : State) (t : BitTiming) : State := { s with bt := t, btValid := true }

/-- A controller error is recorded in `CTRL_ERR`: the one thing all of them share (10_state.md R37). -/
def State.raiseCtrl (s : State) (e : ControllerErr) : State := { s with ctrlErr := some e }

/-- The end of a recovery episode by a configure, a close or a fatal error: `REC_REQ <- 0 ; REC_RESULT <- None`, and
the timer stops (43_bus_state_machine.md R203, R204, R215; 60_exceptions.md R308). -/
def State.abandonRecovery (s : State) : State :=
  { s with recReq := false, recResult := .none, recTimer := false }

/-- The result an operation ends with (00_scope.md R9). -/
def State.setRet (s : State) (r : Ret) : State := { s with ret := r }

/-- `BUS_STATE` as two bits (10_state.md R30). -/
def busStateCode : BusState → BitVec 2
  | .closed => 0
  | .opened => 1
  | .busOff => 2
  | .recovering => 3

/-- `REC_RESULT` as a number (60_exceptions.md R290). -/
def recResultCode : RecResult → Nat
  | .none => 0
  | .ok => 1
  | .timeout => 2

/-- `CTRL_ERR` as a number (60_exceptions.md R290). -/
def ctrlErrCode : Option ControllerErr → Nat
  | none => 0
  | some .installFailed => 1
  | some .startFailed => 2
  | some .recoveryTimeout => 3
  | some .notConfigured => 4
  | some .fatal => 5

end Sys2Proof.Machine
end

