-- ==== Sys2Proof/Machine/Operands.lean ====
section
/-! DEFINITION. Where operands come from: the timing table with its fallback (44_dispatch_and_forwarding.md R246), the
driver's answers (43_bus_state_machine.md R201), the encoding of a bus frame (R260), the instruction of a control
command (30_encoding.md R105). -/

namespace Sys2Proof.Machine

/-- `TIMING_TABLE[n]`. -/
def timingEntry (c : Config) (n : Nat) : Option BitTiming :=
  if n = 8 then some c.timing8 else c.timingLow[n]?.join

/-- The timing of the largest code below `n` that has one (44_dispatch_and_forwarding.md R246). -/
def timingBelow (c : Config) : Nat → Option BitTiming
  | 0 => none
  | m + 1 =>
    match timingEntry c m with
    | some t => some t
    | none => timingBelow c m

/-- The timing that serves code `n`, and whether it is the legacy downgrade (44_dispatch_and_forwarding.md R246). -/
def timingFor (c : Config) (n : Nat) : Option (BitTiming × Bool) :=
  match timingEntry c n with
  | some t => some (t, false)
  | none =>
    match c.fallback with
    | .reject => none
    | .legacyDowngrade => (timingBelow c n).map fun t => (t, true)

/-- `BITRATE[n]` in bit/s (30_encoding.md R106). -/
def bitrate (n : Fin 9) : Nat :=
  [10000, 20000, 50000, 100000, 125000, 250000, 500000, 800000, 1000000].getD n.val 0

/-- The next answer: the first one given, else the free value of this draw (log 6). -/
def Answers.next {α : Type} (a : Answers α) (free : Nat → α) : α := a.given.headD (free a.taken)

/-- The answers left once the next one is taken. -/
def Answers.rest {α : Type} (a : Answers α) : Answers α := { given := a.given.tail, taken := a.taken + 1 }

/-- What `drv.install` will answer. -/
def State.installAnswer (s : State) : DrvResult := s.ansInstall.next Config.freeInstall

/-- What `drv.start` will answer. -/
def State.startAnswer (s : State) : DrvResult := s.ansStart.next Config.freeStart

/-- What `drv.transmit` will answer. -/
def State.transmitAnswer (s : State) : TxResult := s.ansTransmit.next Config.freeTransmit

/-- The unit a bus frame becomes (44_dispatch_and_forwarding.md R260). -/
def encodeUnit (c : Config) (f : CanFrame) : List Byte :=
  match c.proto with
  | .text => encodeSlcan f
  | .binary => encodeHostframe c.hfLayout f echoSentinel

/-- The instruction of a command on `CIN` (30_encoding.md R105). -/
def ctlInstr : CtlCmd → Instr
  | .hostFormat v => .hostFormat v
  | .setBittiming t => .setBittiming t
  | .modeStart => .modeStart
  | .modeStop => .modeStop
  | .btConst => .btConst
  | .deviceConfig => .deviceConfig
  | .other => .ctlOther

end Sys2Proof.Machine
end

