-- ==== Sys2Proof/Machine/Ops.lean ====
section
/-! DEFINITION. The operations the instructions share: enabling conditions, output, driver calls, the controller
operations, executing a decoded line and a record, the two framer loops, and fetching a turn's instruction. The block
has no trap entry and no return from one (60_exceptions.md R304, R305): an error has its whole effect inside the step
that raises it, and what controller errors share is `State.raiseCtrl`. -/

namespace Sys2Proof.Machine

/-! ### Enabling conditions and outputs -/

/-- `LINE_CAP` (00_scope.md R6). -/
abbrev lineCap : Nat := 128

/-- `OQ_CAP` (00_scope.md R6). -/
abbrev oqCap : Nat := 128

/-- `RECOVERY_TIMEOUT_MS` (00_scope.md R6): a label of `EV_REC_TIMEOUT`; no rule depends on it (60_exceptions.md
R308). -/
def recoveryTimeoutMs : Nat := 1000

/-- The step is enabled exactly when `enabled`; otherwise `why` it is not. -/
def stepWhen (enabled : Bool) (why : Fault) (t : State) : Result :=
  if enabled then .next t else .fault why

/-- A unit of the Text protocol (42_framers.md R180, 30_encoding.md R90). -/
def whenText (s t : State) : Result := stepWhen (s.cfg.proto == .text) .onlyText t

/-- A unit of the Binary protocol (42_framers.md R184, 44_dispatch_and_forwarding.md R252). -/
def whenBinary (s t : State) : Result := stepWhen (s.cfg.proto == .binary) .onlyBinary t

/-- `emit(u)` (20_memory.md R64). -/
def State.emit (s : State) (u : List Byte) : State := { s with hout := s.hout ++ [u] }

/-- The acknowledgment token (30_encoding.md R95). -/
def ackUnit : List Byte := [cr]

/-- The error token (30_encoding.md R95). -/
def nakUnit : List Byte := [bell]

/-- Append one response to `COUT` (44_dispatch_and_forwarding.md R252). -/
def State.respond (s : State) (r : CtlResp) : State := { s with cout := s.cout ++ [r] }

/-! ### Driver calls (43_bus_state_machine.md R201) -/

/-- A call is made. -/
def State.call (s : State) (c : DrvCall) : State := { s with drvLog := s.drvLog ++ [c] }

/-- `drv.stop() ; drv.uninstall()`: no instance is left. -/
def State.teardown (s : State) : State := { (s.call .stop).call .uninstall with inst := none }

/-- `drv.install(t)`: on `ok` an instance is installed, not yet started. -/
def drvInstall (t : BitTiming) (s : State) : DrvResult × State :=
  (s.installAnswer,
    { s.call (.install t) with
      ansInstall := s.ansInstall.rest
      inst := if s.installAnswer = .ok then some { timing := t, started := false } else s.inst })

/-- `drv.start()`: on `ok` the installed instance is started. -/
def drvStart (s : State) : DrvResult × State :=
  (s.startAnswer,
    { s.call .start with
      ansStart := s.ansStart.rest
      inst := if s.startAnswer = .ok then s.inst.map fun d => { d with started := true } else s.inst })

/-- `drv.uninstall()`. -/
def drvUninstall (s : State) : State := { s.call .uninstall with inst := none }

/-- `drv.transmit(f, TX_TIMEOUT_MS)`. -/
def drvTransmit (f : CanFrame) (s : State) : TxResult × State :=
  (s.transmitAnswer, { s.call (.transmit f s.cfg.txTimeoutMs) with ansTransmit := s.ansTransmit.rest })

/-! ### Controller operations -/

/-- Stop and uninstall the running instance, if any; the state is then `Closed`. -/
def closeInstance (s : State) : State :=
  if s.busState = .closed then s else { s.teardown with busState := .closed }

/-- `CONFIGURE(t)`, 43_bus_state_machine.md R203. -/
def configure (t : BitTiming) (s : State) : CtlOutcome × State :=
  let installed := drvInstall t (closeInstance s).abandonRecovery
  if installed.1 = .fail then (.err .installFailed, installed.2.raiseCtrl .installFailed)
  else
    let started := drvStart installed.2
    if started.1 = .fail then (.err .startFailed, (drvUninstall started.2).raiseCtrl .startFailed)
    else (.ok, { started.2 with busState := .opened, ctrlErr := none })

/-- `CMD_CLOSE`, 43_bus_state_machine.md R204. -/
def cmdClose (s : State) : State := (closeInstance s).abandonRecovery

/-- `CMD_OPEN`, 43_bus_state_machine.md R205. -/
def cmdOpen (s : State) : CtlOutcome × State :=
  if s.btValid then configure s.bt s else (.err .notConfigured, s.raiseCtrl .notConfigured)

/-- What the driver's answer means to the caller (43_bus_state_machine.md R206). -/
def txOutcome : TxResult → TxOutcome
  | .ok => .ok
  | .timeout => .err .timeout
  | .error => .err .driver

/-- `TX_GATE(f)`, 43_bus_state_machine.md R206. -/
def txGate (f : CanFrame) (s : State) : TxOutcome × State :=
  if s.busState = .opened then
    let r := drvTransmit f s
    (txOutcome r.1, r.2)
  else (.err .notOpen, s)

/-! ### Executing a unit -/

/-- The token that answers a controller operation in the Text protocol. -/
def ctlToken : CtlOutcome → List Byte
  | .ok => ackUnit
  | .err _ => nakUnit

/-- A frame line, 44_dispatch_and_forwarding.md R241. -/
def runFrame (f : CanFrame) (s : State) : State :=
  let r := txGate f s
  if r.1 = .ok then r.2.emit ackUnit else r.2.countTxDrop.emit nakUnit

/-- `Control(Open)`, 44_dispatch_and_forwarding.md R244. -/
def runOpen (s : State) : State :=
  let r := cmdOpen s
  r.2.emit (ctlToken r.1)

/-- `Control(Close)`, 44_dispatch_and_forwarding.md R245. -/
def runClose (s : State) : State := (cmdClose s).emit ackUnit

/-- The timing is stored and, where an instance is installed, made effective at once
(44_dispatch_and_forwarding.md R246, from `BT <- e` on). -/
def applyTiming (t : BitTiming) (s : State) : State :=
  let s1 := s.writeTiming t
  if s1.busState = .closed then s1.emit ackUnit
  else
    let r := configure t s1
    r.2.emit (ctlToken r.1)

/-- `Control(SetBitrate(n))`, 44_dispatch_and_forwarding.md R246. -/
def runSetBitrate (n : Fin 9) (s : State) : State :=
  match timingFor s.cfg n.val with
  | none => s.emit nakUnit
  | some (t, false) => applyTiming t s
  | some (t, true) => applyTiming t s.setWarn

/-- What a decoded line does, 44_dispatch_and_forwarding.md R240. -/
def runDecoded (r : ParseResult) (s : State) : State :=
  match r with
  | .err _ => s.emit nakUnit
  | .ok (.frame f) => runFrame f s
  | .ok (.control .openBus) => runOpen s
  | .ok (.control .closeBus) => runClose s
  | .ok (.control (.setBitrate n)) => runSetBitrate n s
  | .ok (.control .versionHw) => s.emit (versionUnit s.cfg.verHw)
  | .ok (.control .versionSw) => s.emit (versionUnit s.cfg.verSw)

/-- A line executed, its decode result recorded (log 5). -/
def runLine (r : ParseResult) (s : State) : State := (runDecoded r s).setRet (.decoded r)

/-- `EXEC_RECORD(rec)`, 44_dispatch_and_forwarding.md R248. -/
def runRecord (bytes : List Byte) (s : State) : State :=
  let s1 := if hostframeWellformed bytes then s else s.setDefect
  let r := txGate (decodeHostframe s.cfg.hfLayout bytes) s1
  if r.1 = .ok then r.2 else r.2.countTxDrop

/-! ### Framers -/

/-- `b = 0x0D or b = 0x0A` (42_framers.md R180). -/
def isTerminator (b : Byte) : Bool := b == cr || b == lf

/-- `FRM_BYTE`, 42_framers.md R180 to R182. -/
def frameByte (b : Byte) (s : State) : State :=
  if isTerminator b then
    if s.lb.isEmpty then s
    else runLine (decodeSlcan s.lb) { s with lb := [] }
  else if s.lb.length < lineCap then { s with lb := s.lb ++ [b] }
  else s

/-- The loop of `FRM_PACKET` (42_framers.md R184), at most `fuel` times round; `RB` gets shorter each time, so its
length is fuel enough. -/
def extractRecords : Nat → State → State
  | 0, s => s
  | fuel + 1, s =>
    if s.rb.length < hfSize s.cfg.hfLayout then s
    else
      extractRecords fuel
        (runRecord (s.rb.take (hfSize s.cfg.hfLayout)) { s with rb := s.rb.drop (hfSize s.cfg.hfLayout) })

/-- `FRM_PACKET`, 42_framers.md R184. -/
def framePacket (p : List Byte) (s : State) : State :=
  extractRecords (s.rb ++ p).length { s with rb := s.rb ++ p }

/-! ### Whose step: fetching the instruction of a turn (00_scope.md R11) -/

/-- What the turn runs and the state its instruction starts from; `none` where the agent has no unit to take
(60_exceptions.md R312). A packet of no bytes is not delivered to the framer (42_framers.md R184). -/
def fetchTurn (t : Turn) (s : State) : Option (Instr × State) :=
  match t with
  | .hrx =>
    match s.cfg.proto with
    | .text =>
      match s.hinText with
      | [] => none
      | b :: bs => some (.frmByte b, { s with hinText := bs })
    | .binary =>
      match s.hinBin.dropWhile List.isEmpty with
      | [] => none
      | p :: ps => some (.frmPacket p, { s with hinBin := ps })
  | .ctl =>
    match s.cfg.proto, s.cin with
    | .binary, c :: cs => some (ctlInstr c, { s with cin := cs })
    | _, _ => none
  | .op i => some (i, s)

/-- The step of an agent: a step that is not enabled is not taken, and the turn passes (60_exceptions.md R312; log
4). -/
def passUnlessEnabled (s : State) : Result → Result
  | .next t => .next t
  | .fault _ => .next s
  | .refused r => .refused r

/-- The state in which the next step executes the text unit `bytes`: a token as its own turn, a line by the terminator
that completes it (log 12). -/
def placeTextUnit (bytes : List Byte) (s : State) : State :=
  let s := { s with cfg := { s.cfg with proto := .text } }
  match decodeToken bytes with
  | .ok i => { s with turns := .op i :: s.turns }
  | .error _ => { s with lb := bytes, hinText := cr :: s.hinText, turns := .hrx :: s.turns }

end Sys2Proof.Machine
end

