-- ==== Sys2Proof/Machine/Binary.lean ====
section
/-! DEFINITION. Binary protocol: the two pure functions of the HostFrame codec (41_binary_codec.md). -/

namespace Sys2Proof.Machine

/-- An operation on a record of exactly `HF_SIZE` bytes (41_binary_codec.md R160). -/
def onRecord (bytes : List Byte) (s : State) (r : Result) : Result :=
  if bytes.length = hfSize s.cfg.hfLayout then r else .refused .recordSize

/-- `DEC_HOSTFRAME`, 41_binary_codec.md R160: "Flags written: none by the function". -/
def execDecHostframe (bytes : List Byte) (s : State) : Result :=
  onRecord bytes s (.next (s.setRet (.frame (decodeHostframe s.cfg.hfLayout bytes))))

/-- `ENC_HOSTFRAME`, 41_binary_codec.md R161. -/
def execEncHostframe (f : CanFrame) (tag : U32) (s : State) : Result :=
  .next (s.setRet (.bytes (encodeHostframe s.cfg.hfLayout f tag)))

end Sys2Proof.Machine
end

