-- ==== Sys2Proof/Machine/Bus.lean ====
section
/-! DEFINITION. The bus-state machine (43_bus_state_machine.md). -/

namespace Sys2Proof.Machine

/-- `CONFIGURE`, 43_bus_state_machine.md R203. -/
def execConfigure (t : BitTiming) (s : State) : Result :=
  let r := configure t s
  .next (r.2.setRet (.ctl r.1))

/-- `CMD_CLOSE`, 43_bus_state_machine.md R204. -/
def execCmdClose (s : State) : Result := .next ((cmdClose s).setRet (.ctl .ok))

/-- `CMD_OPEN`, 43_bus_state_machine.md R205. -/
def execCmdOpen (s : State) : Result :=
  let r := cmdOpen s
  .next (r.2.setRet (.ctl r.1))

/-- `TX_GATE`, 43_bus_state_machine.md R206. -/
def execTxGate (f : CanFrame) (s : State) : Result :=
  let r := txGate f s
  .next (r.2.setRet (.tx r.1))

/-- `EV_BUSOFF`, 43_bus_state_machine.md R210. -/
def execEvBusoff (s : State) : Result :=
  .next (if s.busState = .opened then { s with busState := .busOff, recReq := true } else s)

/-- `REC_START`, 43_bus_state_machine.md R211. -/
def execRecStart (s : State) : Result :=
  stepWhen (decide (s.busState = .busOff) && s.recReq) .noRecoveryRequested
    { s.call .initiateRecovery with recReq := false, busState := .recovering, recTimer := true }

/-- `EV_REC_DONE`, 43_bus_state_machine.md R212. -/
def execEvRecDone (s : State) : Result :=
  .next (if s.busState = .recovering then { s with busState := .opened, recResult := .ok, recTimer := false } else s)

/-- `EV_REC_TIMEOUT`, 43_bus_state_machine.md R213. -/
def execEvRecTimeout (s : State) : Result :=
  stepWhen (decide (s.busState = .recovering)) .notRecovering
    ({ s with busState := .busOff, recResult := .timeout, recTimer := false }.raiseCtrl .recoveryTimeout)

/-- `EV_FATAL`, 43_bus_state_machine.md R215. -/
def execEvFatal (s : State) : Result :=
  .next (if s.busState = .closed then s else (closeInstance s).abandonRecovery.raiseCtrl .fatal)

/-- `CMD_CHECK`, 43_bus_state_machine.md R216. -/
def execCmdCheck (s : State) : Result :=
  .next (if s.busState = .busOff then { s with recReq := true } else s)

end Sys2Proof.Machine
end

