-- ==== Sys2Proof/Machine/Control.lean ====
section
/-! DEFINITION. The control commands of the Binary protocol: one response on `COUT` each
(44_dispatch_and_forwarding.md R252 to R258). -/

namespace Sys2Proof.Machine

/-- `HOST_FORMAT(v)`, 44_dispatch_and_forwarding.md R253: the operand is opaque and has no effect. -/
def execHostFormat (_value : Nat) (s : State) : Result := whenBinary s (s.respond .ack)

/-- `SET_BITTIMING`, 44_dispatch_and_forwarding.md R254: stored, pending a `MODE_START`. -/
def execSetBittiming (t : BitTiming) (s : State) : Result := whenBinary s ((s.writeTiming t).respond .ack)

/-- The response to a controller operation. -/
def ctlResp : CtlOutcome → CtlResp
  | .ok => .ack
  | .err e => .err e

/-- `MODE_START`, 44_dispatch_and_forwarding.md R255. -/
def execModeStart (s : State) : Result :=
  let r := cmdOpen s
  whenBinary s (r.2.respond (ctlResp r.1))

/-- `MODE_STOP`, 44_dispatch_and_forwarding.md R256. -/
def execModeStop (s : State) : Result := whenBinary s ((cmdClose s).respond .ack)

/-- `BT_CONST`, 44_dispatch_and_forwarding.md R257. -/
def execBtConst (s : State) : Result := whenBinary s (s.respond (.data s.cfg.btConstBlob))

/-- `DEVICE_CONFIG`, 44_dispatch_and_forwarding.md R257. -/
def execDeviceConfig (s : State) : Result := whenBinary s (s.respond (.data s.cfg.deviceConfigBlob))

/-- Any other command, 44_dispatch_and_forwarding.md R258. -/
def execCtlOther (s : State) : Result := whenBinary s (s.respond .unknown)

end Sys2Proof.Machine
end

