-- ==== Sys2Proof/Machine/Forward.lean ====
section
/-! DEFINITION. Bus to host: the arrival of a frame and the writer's step (44_dispatch_and_forwarding.md R260, R262). -/

namespace Sys2Proof.Machine

/-- `EV_BUS_RX(f)`, 44_dispatch_and_forwarding.md R260. -/
def execEvBusRx (f : CanFrame) (s : State) : Result :=
  stepWhen (decide (s.busState ≠ .closed)) .noInstance
    (if s.oq.length < oqCap then { s with oq := s.oq ++ [encodeUnit s.cfg f] } else s.countRxDrop)

/-- `HTX_POP`, 44_dispatch_and_forwarding.md R262. -/
def execHtxPop (s : State) : Result :=
  match s.oq with
  | [] => .fault .queueEmpty
  | u :: rest => .next ({ s with oq := rest }.emit u)

end Sys2Proof.Machine
end

