-- ==== Sys2Proof/Machine/Framer.lean ====
section
/-! DEFINITION. The framers and the execution of what they complete (42_framers.md R180, R184;
44_dispatch_and_forwarding.md R240, R248). -/

namespace Sys2Proof.Machine

/-- `EXEC_LINE(L)`, 44_dispatch_and_forwarding.md R240. -/
def execExecLine (line : List Byte) (s : State) : Result := whenText s (runLine (decodeSlcan line) s)

/-- `EXEC_RECORD(rec)`, 44_dispatch_and_forwarding.md R248. -/
def execExecRecord (bytes : List Byte) (s : State) : Result := onRecord bytes s (whenBinary s (runRecord bytes s))

/-- `FRM_BYTE`, 42_framers.md R180. -/
def execFrmByte (b : Byte) (s : State) : Result := whenText s (frameByte b s)

/-- `FRM_PACKET`, 42_framers.md R184. -/
def execFrmPacket (p : List Byte) (s : State) : Result := whenBinary s (framePacket p s)

end Sys2Proof.Machine
end

