-- ==== Sys2Proof/Machine/Text.lean ====
section
/-! DEFINITION. Text protocol: the ten kinds of line, the encoder `ENC_SLCAN`, the tokens and the version responses
(40_text_codec.md, 30_encoding.md R95). Executing a line is decoding it by its opcode and acting on the result
(44_dispatch_and_forwarding.md R240; log 13). -/

namespace Sys2Proof.Machine

/-- `SL_t`, 40_text_codec.md R130. -/
def execSlDataStd (payload : List Byte) (s : State) : Result := whenText s (runLine (decDataStd (0x74#8 :: payload)) s)

/-- `SL_T`, 40_text_codec.md R131. -/
def execSlDataExt (payload : List Byte) (s : State) : Result := whenText s (runLine (decDataExt (0x54#8 :: payload)) s)

/-- `SL_r`, 40_text_codec.md R132. -/
def execSlRemoteStd (payload : List Byte) (s : State) : Result :=
  whenText s (runLine (decRemoteStd (0x72#8 :: payload)) s)

/-- `SL_R`, 40_text_codec.md R133. -/
def execSlRemoteExt (payload : List Byte) (s : State) : Result :=
  whenText s (runLine (decRemoteExt (0x52#8 :: payload)) s)

/-- `SL_O`, 40_text_codec.md R134. -/
def execSlOpen (payload : List Byte) (s : State) : Result := whenText s (runLine (decOpen (0x4F#8 :: payload)) s)

/-- `SL_C`, 40_text_codec.md R135. -/
def execSlClose (payload : List Byte) (s : State) : Result := whenText s (runLine (decClose (0x43#8 :: payload)) s)

/-- `SL_S`, 40_text_codec.md R136. -/
def execSlSetBitrate (payload : List Byte) (s : State) : Result :=
  whenText s (runLine (decSetBitrate (0x53#8 :: payload)) s)

/-- `SL_V`, 40_text_codec.md R137. -/
def execSlVersionHw (payload : List Byte) (s : State) : Result :=
  whenText s (runLine (decVersionHw (0x56#8 :: payload)) s)

/-- `SL_v`, 40_text_codec.md R138. -/
def execSlVersionSw (payload : List Byte) (s : State) : Result :=
  whenText s (runLine (decVersionSw (0x76#8 :: payload)) s)

/-- `SL_UNKNOWN`, 40_text_codec.md R145. -/
def execSlUnknown (opcode : Byte) (payload : List Byte) (s : State) : Result :=
  whenText s (runLine (decUnknown (opcode :: payload)) s)

/-- `ENC_SLCAN`, 40_text_codec.md R140: a pure function, its result is returned. -/
def execEncSlcan (f : CanFrame) (s : State) : Result := .next (s.setRet (.bytes (encodeSlcan f)))

/-- `ACK`, 30_encoding.md R95. -/
def execAck (s : State) : Result := whenText s (s.emit ackUnit)

/-- `NAK`, 30_encoding.md R95. -/
def execNak (s : State) : Result := whenText s (s.emit nakUnit)

/-- `VERHW`, 44_dispatch_and_forwarding.md R247. -/
def execVerHw (s : State) : Result := whenText s (s.emit (versionUnit s.cfg.verHw))

/-- `VERSW`, 44_dispatch_and_forwarding.md R247. -/
def execVerSw (s : State) : Result := whenText s (s.emit (versionUnit s.cfg.verSw))

end Sys2Proof.Machine
end

