-- ==== Sys2Proof/Machine/Dispatch.lean ====
section
/-! DEFINITION. One arm per constructor of `Instr`, each one call of the instruction's meaning. -/

namespace Sys2Proof.Machine

def exec (i : Instr) (s : State) : Host.Outcome State Fault Refusal :=
  match i with
  | .slDataStd payload => Sys2Proof.Machine.execSlDataStd payload s
  | .slDataExt payload => Sys2Proof.Machine.execSlDataExt payload s
  | .slRemoteStd payload => Sys2Proof.Machine.execSlRemoteStd payload s
  | .slRemoteExt payload => Sys2Proof.Machine.execSlRemoteExt payload s
  | .slOpen payload => Sys2Proof.Machine.execSlOpen payload s
  | .slClose payload => Sys2Proof.Machine.execSlClose payload s
  | .slSetBitrate payload => Sys2Proof.Machine.execSlSetBitrate payload s
  | .slVersionHw payload => Sys2Proof.Machine.execSlVersionHw payload s
  | .slVersionSw payload => Sys2Proof.Machine.execSlVersionSw payload s
  | .slUnknown opcode payload => Sys2Proof.Machine.execSlUnknown opcode payload s
  | .decHostframe bytes => Sys2Proof.Machine.execDecHostframe bytes s
  | .encHostframe frame tag => Sys2Proof.Machine.execEncHostframe frame tag s
  | .encSlcan frame => Sys2Proof.Machine.execEncSlcan frame s
  | .ack => Sys2Proof.Machine.execAck s
  | .nak => Sys2Proof.Machine.execNak s
  | .verHw => Sys2Proof.Machine.execVerHw s
  | .verSw => Sys2Proof.Machine.execVerSw s
  | .hostFormat value => Sys2Proof.Machine.execHostFormat value s
  | .setBittiming timing => Sys2Proof.Machine.execSetBittiming timing s
  | .modeStart => Sys2Proof.Machine.execModeStart s
  | .modeStop => Sys2Proof.Machine.execModeStop s
  | .btConst => Sys2Proof.Machine.execBtConst s
  | .deviceConfig => Sys2Proof.Machine.execDeviceConfig s
  | .ctlOther => Sys2Proof.Machine.execCtlOther s
  | .execLine line => Sys2Proof.Machine.execExecLine line s
  | .execRecord bytes => Sys2Proof.Machine.execExecRecord bytes s
  | .frmByte byte => Sys2Proof.Machine.execFrmByte byte s
  | .frmPacket packet => Sys2Proof.Machine.execFrmPacket packet s
  | .configure timing => Sys2Proof.Machine.execConfigure timing s
  | .cmdClose => Sys2Proof.Machine.execCmdClose s
  | .cmdOpen => Sys2Proof.Machine.execCmdOpen s
  | .txGate frame => Sys2Proof.Machine.execTxGate frame s
  | .evBusoff => Sys2Proof.Machine.execEvBusoff s
  | .recStart => Sys2Proof.Machine.execRecStart s
  | .evRecDone => Sys2Proof.Machine.execEvRecDone s
  | .evRecTimeout => Sys2Proof.Machine.execEvRecTimeout s
  | .evFatal => Sys2Proof.Machine.execEvFatal s
  | .cmdCheck => Sys2Proof.Machine.execCmdCheck s
  | .evBusRx frame => Sys2Proof.Machine.execEvBusRx frame s
  | .htxPop => Sys2Proof.Machine.execHtxPop s

end Sys2Proof.Machine
end

