-- ==== Sys2Proof/Machine/Step.lean ====
section
/-! DEFINITION. One step of the block: the agent named first in `turns` takes its step (00_scope.md R11; log 2). -/

namespace Sys2Proof.Machine

/-- The state in which a turn begins: it is taken off the list, and no operation has returned yet. -/
def State.beginTurn (s : State) (rest : List Turn) : State := { s with turns := rest, ret := .none }

/-- One step. With no turn left, and where the agent has no unit to take or its step is not enabled, nothing else
happens (60_exceptions.md R312). -/
def step (s : State) : Host.Outcome State Fault Refusal :=
  match s.turns with
  | [] => .next s
  | t :: rest =>
    match fetchTurn t (s.beginTurn rest) with
    | none => .next (s.beginTurn rest)
    | some (i, s1) => if i.wellFormed then passUnlessEnabled s1 (exec i s1) else .refused .illFormed

/-- `s` with the unit of an opcode-table word placed so that the next step executes it (log 12). -/
def State.withFetchWord (s : State) (nbits w : Nat) : State := placeTextUnit (tableUnit nbits w) s

end Sys2Proof.Machine
end

