-- ==== Sys2Proof/Safety.lean ====
section
/-! DEFINITION. The terms claims are stated in: when an instruction is enabled, which turns are steps of the spec's
agents, the units a host can receive, the invariant of the block, its runs and which of them are weakly fair. -/

namespace Sys2Proof.Machine

/-- The operation can be performed in this state, by the enabling conditions of the rules (42_framers.md R180, R184;
41_binary_codec.md R160; 43_bus_state_machine.md R211, R213; 44_dispatch_and_forwarding.md R252, R260, R262;
30_encoding.md R90, R95). Every other operation is always enabled. -/
def enabled (s : State) : Instr → Bool
  | .slDataStd _ | .slDataExt _ | .slRemoteStd _ | .slRemoteExt _ => s.cfg.proto == .text
  | .slOpen _ | .slClose _ | .slSetBitrate _ | .slVersionHw _ | .slVersionSw _ => s.cfg.proto == .text
  | .slUnknown _ _ | .ack | .nak | .verHw | .verSw | .execLine _ | .frmByte _ => s.cfg.proto == .text
  | .hostFormat _ | .setBittiming _ | .modeStart | .modeStop => s.cfg.proto == .binary
  | .btConst | .deviceConfig | .ctlOther | .frmPacket _ => s.cfg.proto == .binary
  | .decHostframe r => r.length == hfSize s.cfg.hfLayout
  | .execRecord r => r.length == hfSize s.cfg.hfLayout && s.cfg.proto == .binary
  | .recStart => s.busState == .busOff && s.recReq
  | .evRecTimeout => s.busState == .recovering
  | .evBusRx _ => s.busState != .closed
  | .htxPop => !s.oq.isEmpty
  | .encHostframe _ _ | .encSlcan _ | .configure _ | .cmdClose | .cmdOpen | .txGate _ => true
  | .evBusoff | .evRecDone | .evFatal | .cmdCheck => true

/-- The turn is a step of an agent of 00_scope.md R11, with an operand the environment can supply. The internal
operations, which the spec runs only inside such a step, are not (log 3). -/
def agentTurn : Turn → Bool
  | .hrx | .ctl => true
  | .op .recStart | .op .htxPop => true
  | .op .evBusoff | .op .evRecDone | .op .evRecTimeout | .op .evFatal | .op .cmdCheck => true
  | .op (.evBusRx f) => f.valid
  | .op _ => false

/-- The instruction executes the text line `line`: it is `EXEC_LINE` of it, or what the decoder reads from it. -/
def runsLine (i : Instr) (line : List Byte) : Prop := i = .execLine line ∨ decodeLine line = .ok i

/-- The opcodes of frame lines with their id width and flags (40_text_codec.md R130 to R133). -/
def frameLineKinds : List (Byte × Nat × Bool × Bool) :=
  [(0x74#8, 3, false, false), (0x54#8, 8, true, false), (0x72#8, 3, false, true), (0x52#8, 8, true, true)]

/-- The opcodes of control lines without argument and their command (40_text_codec.md R134, R135, R137, R138). -/
def bareControls : List (Byte × Command) :=
  [(0x4F#8, .openBus), (0x43#8, .closeBus), (0x56#8, .versionHw), (0x76#8, .versionSw)]

/-- A hex digit in its uppercase form (40_text_codec.md R143). -/
def upperHex (b : Byte) : Byte := if 0x61#8 ≤ b && b ≤ 0x66#8 then b - 0x20#8 else b

/-- `LE32` of four bytes of a record from offset `at_` (00_scope.md R8). -/
def le32At (bytes : List Byte) (at_ : Nat) : Nat :=
  (byteAt bytes at_).toNat + 2 ^ 8 * (byteAt bytes (at_ + 1)).toNat + 2 ^ 16 * (byteAt bytes (at_ + 2)).toNat +
    2 ^ 24 * (byteAt bytes (at_ + 3)).toNat

/-- The calls that remove a running instance: none in `Closed` (43_bus_state_machine.md R203, R204, R215). -/
def teardownCalls (b : BusState) : List DrvCall := if b = .closed then [] else [.stop, .uninstall]

/-- The unit is an encoded frame of the protocol in use. -/
def isFrameUnit (c : Config) (u : List Byte) : Prop := ∃ f : CanFrame, f.valid = true ∧ u = encodeUnit c f

/-- The unit is one the protocol in use has toward the host (10_state.md R43; 30_encoding.md R95: the Binary protocol
has no tokens). -/
def isHostUnit (c : Config) (u : List Byte) : Prop :=
  isFrameUnit c u ∨
    c.proto = .text ∧ (u = ackUnit ∨ u = nakUnit ∨ u = versionUnit c.verHw ∨ u = versionUnit c.verSw)

/-- The invariant of the block: every reachable state of a run of the spec's agents meets it. -/
structure Inv (s : State) : Prop where
  /-- The parameters are in the ranges of 00_scope.md R6, R7. -/
  cfg : s.cfg.wf = true
  /-- `LB_LEN ≤ 128` (10_state.md R26). -/
  lbCap : s.lb.length ≤ lineCap
  /-- `LB` holds no terminator (10_state.md R26). -/
  lbClean : ∀ b ∈ s.lb, isLineChar b = true
  /-- `len(RB) < HF_SIZE` between steps (10_state.md R27). -/
  rbShort : s.rb.length < hfSize s.cfg.hfLayout
  /-- `LB` is unused in the Binary protocol (10_state.md R26). -/
  lbUnused : s.cfg.proto = .binary → s.lb = []
  /-- `RB` is unused in the Text protocol (10_state.md R27). -/
  rbUnused : s.cfg.proto = .text → s.rb = []
  /-- `COUT` is unused in the Text protocol (10_state.md R44). -/
  coutUnused : s.cfg.proto = .text → s.cout = []
  /-- `REC_REQ = 1 ⇒ BUS_STATE = BusOff` (43_bus_state_machine.md R217 (a)). -/
  recReqBusOff : s.recReq = true → s.busState = .busOff
  /-- `BUS_STATE ≠ Closed ⇒ BT_VALID = 1` (43_bus_state_machine.md R217 (b)). -/
  btValid : s.busState ≠ .closed → s.btValid = true
  /-- No instance is installed in `Closed` (43_bus_state_machine.md R217 (c)). -/
  instClosed : s.busState = .closed → s.inst = none
  /-- A started instance is installed outside `Closed` (43_bus_state_machine.md R217 (c), 10_state.md R30). -/
  instOpen : s.busState ≠ .closed → ∃ t, s.inst = some { timing := t, started := true }
  /-- In the Text protocol the running instance has the timing `BT` (10_state.md R31). -/
  instTiming : s.cfg.proto = .text → ∀ d, s.inst = some d → d.timing = s.bt
  /-- The recovery timer runs exactly in `Recovering` (10_state.md R30). -/
  timer : s.recTimer = (s.busState == .recovering)
  /-- `len(OQ) ≤ 128` (10_state.md R40). -/
  oqCap : s.oq.length ≤ oqCap
  /-- `OQ` holds encoded frames (10_state.md R40). -/
  oqUnits : ∀ u ∈ s.oq, isFrameUnit s.cfg u
  /-- `HOUT` holds units of the protocol in use (10_state.md R43). -/
  houtUnits : ∀ u ∈ s.hout, isHostUnit s.cfg u
  /-- With the policy `Reject`, `WARN_FALLBACK` stays 0 (10_state.md R38). -/
  warnReject : s.cfg.fallback = .reject → s.warnFallback = false
  /-- The turns still to come are steps of the spec's agents (log 3). -/
  turns : ∀ t ∈ s.turns, agentTurn t = true

/-! ### Runs (00_scope.md R11, 60_exceptions.md R302; log 2, log 18) -/

/-- What the environment does between two steps: it delivers input and driver answers, and more turns follow. Nothing
else changes (`ENV` of 00_scope.md R11). -/
def Supplied (u s : State) : Prop :=
  ∃ (ts : List Turn) (chars : List Byte) (packets : List (List Byte)) (cmds : List CtlCmd)
    (installs starts : List DrvResult) (sends : List TxResult),
    (∀ t ∈ ts, agentTurn t = true) ∧
    s = { u with
      turns := u.turns ++ ts, hinText := u.hinText ++ chars, hinBin := u.hinBin ++ packets, cin := u.cin ++ cmds
      ansInstall := { u.ansInstall with given := u.ansInstall.given ++ installs }
      ansStart := { u.ansStart with given := u.ansStart.given ++ starts }
      ansTransmit := { u.ansTransmit with given := u.ansTransmit.given ++ sends } }

/-- A run of the block, given by the states its steps start from: steps of the agents, the environment supplying turns
and input between them. Every interleaving is one; a run that has come to an end goes on with idle steps. -/
structure Run (ρ : Nat → State) : Prop where
  /-- Only the agents move (log 3). -/
  agents : ∀ n, ∀ t ∈ (ρ n).turns, agentTurn t = true
  /-- Step `n` leads, with what the environment supplies then, to where step `n + 1` starts. -/
  steps : ∀ n, ∃ u : State, step (ρ n) = .next u ∧ Supplied u (ρ (n + 1))

/-- Step `n` of the run is the turn `t`. -/
def takesAt (ρ : Nat → State) (n : Nat) (t : Turn) : Prop := (ρ n).turns.head? = some t

/-- Weak fairness as the rules rest on it (43_bus_state_machine.md R214, 20_memory.md R72, 70_reset_and_hazards.md R345):
what stays enabled is taken in the end. -/
structure WeaklyFair (ρ : Nat → State) : Prop where
  /-- While the wait for recovery goes on, `EV_REC_DONE` or `EV_REC_TIMEOUT` comes (R214). -/
  recovery : ∀ n, ∃ m, n ≤ m ∧
    ((ρ m).busState ≠ .recovering ∨ takesAt ρ m (.op .evRecDone) ∨ takesAt ρ m (.op .evRecTimeout))
  /-- While units wait in `OQ`, the writer moves: the transport write returns (R72). -/
  writer : ∀ n, ∃ m, n ≤ m ∧ ((ρ m).oq = [] ∨ takesAt ρ m (.op .htxPop))

/-- Step `n` reports a bus-off that takes effect (43_bus_state_machine.md R210). -/
def busOffAt (ρ : Nat → State) (n : Nat) : Prop := takesAt ρ n (.op .evBusoff) ∧ (ρ n).busState = .opened

/-- Step `n` calls `drv.initiate_recovery()` (43_bus_state_machine.md R211). -/
def recoveryCallAt (ρ : Nat → State) (n : Nat) : Prop :=
  takesAt ρ n (.op .recStart) ∧ (ρ n).busState = .busOff ∧ (ρ n).recReq = true

/-- Step `n` configures the bus successfully: the calls of 43_bus_state_machine.md R203, and `Open`. -/
def configuredAt (ρ : Nat → State) (n : Nat) : Prop :=
  (ρ (n + 1)).busState = .opened ∧
    ∃ e : BitTiming, (ρ (n + 1)).drvLog = (ρ n).drvLog ++ teardownCalls (ρ n).busState ++ [.install e, .start]

end Sys2Proof.Machine
end

