-- ==== Sys2Proof/Certificates/Slice0/Obligations.lean ====
section
/-! DEFINITION. The statements for the provers. The forms in which the model says what the rules say are its own
(notes/assumptions): the turns of a step (2), a named fault of `exec` where a rule calls an operation not enabled (4), the
result of an operation in `ret` (5), the answers to driver calls, which are any (6), the driver instance, the recovery
timer and the driver calls as state (10), a line unit as the execution of its line (13), the operand checks (20). -/

open Sys2Proof Sys2Proof.Machine

/-! ### Reset and the whole machine -/

/-- 70_reset_and_hazards.md R330, every element whose value it gives; `BT` is unspecified there. -/
def Obligations.ResetLeavesSpecValues : Prop :=
  State.reset.busState = .closed ∧ State.reset.btValid = false ∧ State.reset.recReq = false ∧
  State.reset.recResult = .none ∧ State.reset.ctrlErr = none ∧ State.reset.warnFallback = false ∧
  State.reset.hfDefect = false ∧ State.reset.lb.length = 0 ∧ State.reset.rb = [] ∧ State.reset.oq = [] ∧
  State.reset.rxDropCnt = 0 ∧ State.reset.txDropCnt = 0 ∧ State.reset.hout = [] ∧ State.reset.cout = [] ∧
  State.reset.recTimer = false ∧ State.reset.inst = none

/-- The state after reset meets the invariant, whatever the open parameters are. -/
def Obligations.ResetMeetsInvariant : Prop := Inv State.reset

/-- Every step of the spec's agents keeps the invariant: 10_state.md R26, R27, R30, R31, R38, R40, R43, R44 and
43_bus_state_machine.md R217 (a) to (c). -/
def Obligations.StepKeepsInvariant : Prop := ∀ s t : State, Inv s → step s = .next t → Inv t

/-- `PROTO` and every other parameter are constant for a run (00_scope.md R7). -/
def Obligations.StepKeepsConfiguration : Prop := ∀ s t : State, step s = .next t → t.cfg = s.cfg

/-- Where the terminator of a non-empty line comes next, the step is the execution of the instruction the decoder reads
from the line, with the byte consumed and `LB_LEN` 0. -/
def Obligations.StepExecutesDecodedLine : Prop :=
  ∀ (s : State) (rest : List Turn) (b : Byte) (bs : List Byte) (i : Instr),
    s.turns = .hrx :: rest → s.cfg.proto = .text → s.hinText = b :: bs → (b = cr ∨ b = lf) →
    decodeLine s.lb = .ok i →
    step s = exec i { s with turns := rest, ret := .none, hinText := bs, lb := [] }

/-- What every turn runs: the byte or packet `HRX` takes (a packet of no bytes is passed over), the command `CTL` takes,
the operation a turn names. An agent with no unit to take, and a step that is not enabled, leaves everything else as it
is; an operand the block cannot meet is refused. That a turn may name any operation, an internal one too, is the model's
choice (log 2, log 3). -/
def Obligations.StepRunsTheTurn : Prop :=
  ∀ (s : State) (rest : List Turn),
    (s.turns = [] → step s = .next s) ∧
    (∀ (b : Byte) (bs : List Byte), s.turns = .hrx :: rest → s.cfg.proto = .text → s.hinText = b :: bs →
      step s = exec (.frmByte b) { s with turns := rest, ret := .none, hinText := bs }) ∧
    (s.turns = .hrx :: rest → s.cfg.proto = .text → s.hinText = [] →
      step s = .next { s with turns := rest, ret := .none }) ∧
    (∀ (es : List (List Byte)) (p : List Byte) (ps : List (List Byte)), s.turns = .hrx :: rest →
      s.cfg.proto = .binary → (∀ e ∈ es, e = []) → p ≠ [] → s.hinBin = es ++ p :: ps →
      step s = exec (.frmPacket p) { s with turns := rest, ret := .none, hinBin := ps }) ∧
    (s.turns = .hrx :: rest → s.cfg.proto = .binary → (∀ e ∈ s.hinBin, e = []) →
      step s = .next { s with turns := rest, ret := .none }) ∧
    (∀ (c : CtlCmd) (cs : List CtlCmd), s.turns = .ctl :: rest → s.cfg.proto = .binary → s.cin = c :: cs →
      step s = exec (ctlInstr c) { s with turns := rest, ret := .none, cin := cs }) ∧
    (s.turns = .ctl :: rest → s.cfg.proto = .text ∨ s.cin = [] →
      step s = .next { s with turns := rest, ret := .none }) ∧
    (∀ i : Instr, s.turns = .op i :: rest → i.wellFormed = true → ∀ t : State,
      exec i { s with turns := rest, ret := .none } = .next t → step s = .next t) ∧
    (∀ i : Instr, s.turns = .op i :: rest → i.wellFormed = true → ∀ f : Fault,
      exec i { s with turns := rest, ret := .none } = .fault f →
      step s = .next { s with turns := rest, ret := .none }) ∧
    (∀ i : Instr, s.turns = .op i :: rest → i.wellFormed = true → ∀ r : Refusal,
      exec i { s with turns := rest, ret := .none } = .refused r → step s = .refused r) ∧
    (∀ i : Instr, s.turns = .op i :: rest → i.wellFormed = false → step s = .refused .illFormed)

/-- 60_exceptions.md R296: no error stops an agent, and no state is one from which the block cannot continue.
43_bus_state_machine.md R214 and 20_memory.md R72: in a weakly fair run every recovery wait ends; where `EV_REC_DONE`
ends it the bus is `Open`, where `EV_REC_TIMEOUT` ends it `BusOff`. -/
def Obligations.AgentStepsNeverStop : Prop :=
  (∀ s : State, (∀ t ∈ s.turns, agentTurn t = true) → ∃ t : State, step s = .next t) ∧
  (∀ (ρ : Nat → State) (n : Nat), Run ρ → WeaklyFair ρ → (ρ n).busState = .recovering →
    ∃ m, n ≤ m ∧ (∀ k, n ≤ k → k ≤ m → (ρ k).busState = .recovering) ∧ (ρ (m + 1)).busState ≠ .recovering ∧
      (takesAt ρ m (.op .evRecDone) → (ρ (m + 1)).busState = .opened ∧ (ρ (m + 1)).recResult = .ok) ∧
      (takesAt ρ m (.op .evRecTimeout) →
        (ρ (m + 1)).busState = .busOff ∧ (ρ (m + 1)).recResult = .timeout ∧
          (ρ (m + 1)).ctrlErr = some .recoveryTimeout))

/-- Every instruction completes exactly where the rules enable it. -/
def Obligations.CompletesExactlyWhereEnabled : Prop :=
  ∀ (i : Instr) (s : State), (∃ t : State, exec i s = .next t) ↔ enabled s i = true

/-! ### Text codec -/

/-- The decoder on lines written out from 95_test_vectors.md (V1, V3, T3, T10, T26, T33, T37) and on the two tokens. -/
def Obligations.DecodesSpecUnits : Prop :=
  decodeSlcan [0x74#8, 0x30#8, 0x30#8, 0x31#8, 0x32#8, 0x31#8, 0x31#8, 0x32#8, 0x32#8] =
    .ok (.frame { id := 1, extended := false, remote := false, dlc := 2, data := #v[0x11, 0x22, 0, 0, 0, 0, 0, 0] }) ∧
  decodeSlcan [0x52#8, 0x31#8, 0x41#8, 0x42#8, 0x43#8, 0x44#8, 0x45#8, 0x46#8, 0x30#8, 0x30#8] =
    .ok (.frame { id := 0x1ABCDEF0, extended := true, remote := true, dlc := 0, data := #v[0, 0, 0, 0, 0, 0, 0, 0] }) ∧
  decodeSlcan [0x74#8, 0x38#8, 0x30#8, 0x30#8, 0x30#8] = .err .idRange ∧
  decodeSlcan [0x74#8, 0x31#8, 0x32#8, 0x33#8, 0x31#8] = .err .truncated ∧
  decodeSlcan [0x72#8, 0x31#8, 0x32#8, 0x33#8, 0x38#8, 0x31#8, 0x31#8] = .err .tooLong ∧
  decodeSlcan [0x53#8, 0x38#8] = .ok (.control (.setBitrate 8)) ∧
  decodeSlcan [0x78#8] = .err .unknownOpcode ∧
  decodeLine [0x4F#8] = .ok (.slOpen []) ∧
  decodeToken [0x0D#8] = .ok .ack ∧ decodeToken [0x07#8] = .ok .nak

/-- 40_text_codec.md R142, read through the framer: the terminator is taken off. -/
def Obligations.TextRoundTrip : Prop :=
  ∀ f : CanFrame, f.valid = true →
    ∃ line : List Byte, encodeSlcan f = line ++ [cr] ∧ decodeSlcan line = .ok (.frame f)

/-- 40_text_codec.md R143: the decoder is injective on frame lines up to hex case. -/
def Obligations.TextConverseRoundTrip : Prop :=
  ∀ (op : Byte) (payload : List Byte) (f : CanFrame), decodeSlcan (op :: payload) = .ok (.frame f) →
    encodeSlcan f = op :: payload.map upperHex ++ [cr]

/-- Every text decode gives a valid frame (10_state.md R24). -/
def Obligations.TextDecodeGivesValidFrames : Prop :=
  ∀ (line : List Byte) (f : CanFrame), decodeSlcan line = .ok (.frame f) → f.valid = true

/-- 40_text_codec.md R141: the checks of a frame line in their order, and the frame it gives. -/
def Obligations.FrameLineChecksInOrder : Prop :=
  ∀ (op : Byte) (w : Nat) (ext rtr : Bool) (payload : List Byte), (op, w, ext, rtr) ∈ frameLineKinds →
    let line := op :: payload
    let idDigits := payload.take w
    let d := hexVal (byteAt line (1 + w))
    let need := 1 + w + 1 + (if rtr then 0 else 2 * d)
    (line.length < 1 + w + 1 → decodeSlcan line = .err .truncated) ∧
    (1 + w + 1 ≤ line.length → (∃ c ∈ idDigits, isHex c = false) ∨ isHex (byteAt line (1 + w)) = false →
      decodeSlcan line = .err .badHex) ∧
    (1 + w + 1 ≤ line.length → (∀ c ∈ idDigits, isHex c = true) → isHex (byteAt line (1 + w)) = true →
      (8 < d → decodeSlcan line = .err .badDlc) ∧
      (d ≤ 8 → idLimit ext ≤ hexSum idDigits → decodeSlcan line = .err .idRange) ∧
      (d ≤ 8 → hexSum idDigits < idLimit ext →
        (line.length < need → decodeSlcan line = .err .truncated) ∧
        (need < line.length → decodeSlcan line = .err .tooLong) ∧
        (line.length = need → (∃ c ∈ payload.drop (1 + w), isHex c = false) → decodeSlcan line = .err .badHex) ∧
        (line.length = need → (∀ c ∈ payload.drop (1 + w), isHex c = true) →
          ∃ f : CanFrame, decodeSlcan line = .ok (.frame f) ∧ f.id.toNat = hexSum idDigits ∧ f.extended = ext ∧
            f.remote = rtr ∧ f.dlc.val = d ∧
            ∀ i : Fin 8, (f.data[i.val]).toNat =
              if rtr = false ∧ i.val < d then
                16 * hexVal (byteAt line (2 + w + 2 * i.val)) + hexVal (byteAt line (3 + w + 2 * i.val))
              else 0)))

/-- 40_text_codec.md R134 to R138 and R145: the control lines, and every other first byte. -/
def Obligations.ControlLineDecoding : Prop :=
  (∀ (op : Byte) (c : Command) (payload : List Byte), (op, c) ∈ bareControls →
    (payload = [] → decodeSlcan (op :: payload) = .ok (.control c)) ∧
    (payload ≠ [] → decodeSlcan (op :: payload) = .err .tooLong)) ∧
  decodeSlcan [0x53#8] = .err .truncated ∧
  (∀ (a b : Byte) (rest : List Byte), decodeSlcan (0x53#8 :: a :: b :: rest) = .err .tooLong) ∧
  (∀ n : Fin 9, decodeSlcan [0x53#8, BitVec.ofNat 8 (0x30 + n.val)] = .ok (.control (.setBitrate n))) ∧
  (∀ a : Byte, a.toNat < 0x30 ∨ 0x38 < a.toNat → decodeSlcan [0x53#8, a] = .err .badBitrate) ∧
  (∀ (op : Byte) (payload : List Byte), isTextOpcode op = false →
    decodeSlcan (op :: payload) = .err .unknownOpcode)

/-- 40_text_codec.md R140: the encoded line, byte by byte; nothing of the state changes but the result returned. -/
def Obligations.EncSlcanWritesTheLine : Prop :=
  ∀ (f : CanFrame) (s : State), f.valid = true →
    ∃ u : List Byte, exec (.encSlcan f) s = .next { s with ret := .bytes u } ∧
      let w := if f.extended then 8 else 3
      let d := if f.remote then 0 else f.dlc.val
      u.length = 1 + w + 1 + 2 * d + 1 ∧
      byteAt u 0 = (if f.extended then (if f.remote then 0x52#8 else 0x54#8) else
        (if f.remote then 0x72#8 else 0x74#8)) ∧
      (∀ k < w, byteAt u (1 + k) = hexDigit (f.id.toNat / 16 ^ (w - 1 - k) % 16)) ∧
      byteAt u (1 + w) = hexDigit f.dlc.val ∧
      (∀ i : Fin 8, i.val < d →
        byteAt u (2 + w + 2 * i.val) = hexDigit ((f.data[i.val]).toNat / 16) ∧
        byteAt u (3 + w + 2 * i.val) = hexDigit ((f.data[i.val]).toNat % 16)) ∧
      byteAt u (1 + w + 1 + 2 * d) = cr

/-! ### Executing a text line -/

/-- A line unit and `EXEC_LINE` of the same line are one operation. -/
def Obligations.LineUnitsExecuteTheirLine : Prop :=
  ∀ (op : Byte) (payload : List Byte) (i : Instr) (s : State), decodeLine (op :: payload) = .ok i →
    exec i s = exec (.execLine (op :: payload)) s

/-- Every line produces exactly one response unit, and leaves the queue, the framers, the streams and the parameters
alone. -/
def Obligations.EveryLineOneResponse : Prop :=
  ∀ (i : Instr) (line : List Byte) (s : State), runsLine i line → s.cfg.proto = .text →
    ∃ (t : State) (u : List Byte), exec i s = .next t ∧ t.hout = s.hout ++ [u] ∧
      (u = [0x0D#8] ∨ u = [0x07#8] ∨ u = s.cfg.verHw.toList ++ [0x0D#8] ∨ u = s.cfg.verSw.toList ++ [0x0D#8]) ∧
      t.cfg = s.cfg ∧ t.lb = s.lb ∧ t.rb = s.rb ∧ t.oq = s.oq ∧ t.rxDropCnt = s.rxDropCnt ∧
      t.hfDefect = s.hfDefect ∧ t.hinText = s.hinText ∧ t.hinBin = s.hinBin ∧ t.cin = s.cin ∧ t.cout = s.cout ∧
      t.turns = s.turns ∧ t.ret = .decoded (decodeSlcan line)

/-- 44_dispatch_and_forwarding.md R242: a line that fails to decode gives the error token; nothing else changes. -/
def Obligations.MalformedLineOnlyBells : Prop :=
  ∀ (i : Instr) (line : List Byte) (e : ParseErr) (s : State), runsLine i line → s.cfg.proto = .text →
    decodeSlcan line = .err e →
    exec i s = .next { s with hout := s.hout ++ [[0x07#8]], ret := .decoded (.err e) }

/-- 44_dispatch_and_forwarding.md R241: a frame line is offered to the transmit gate; the token says how it went and
every failure is counted. -/
def Obligations.FrameLineTransmits : Prop :=
  ∀ (i : Instr) (line : List Byte) (f : CanFrame) (s : State), runsLine i line → s.cfg.proto = .text →
    decodeSlcan line = .ok (.frame f) →
    (s.busState = .opened → s.transmitAnswer = .ok →
      exec i s = .next { s with
        drvLog := s.drvLog ++ [.transmit f s.cfg.txTimeoutMs], ansTransmit := s.ansTransmit.rest,
        hout := s.hout ++ [[0x0D#8]], ret := .decoded (.ok (.frame f)) }) ∧
    (s.busState = .opened → s.transmitAnswer ≠ .ok →
      exec i s = .next { s with
        drvLog := s.drvLog ++ [.transmit f s.cfg.txTimeoutMs], ansTransmit := s.ansTransmit.rest,
        txDropCnt := s.txDropCnt + 1, hout := s.hout ++ [[0x07#8]], ret := .decoded (.ok (.frame f)) }) ∧
    (s.busState ≠ .opened →
      exec i s = .next { s with
        txDropCnt := s.txDropCnt + 1, hout := s.hout ++ [[0x07#8]], ret := .decoded (.ok (.frame f)) })

/-- 44_dispatch_and_forwarding.md R244: an open line is `CMD_OPEN`, answered by its result. -/
def Obligations.OpenLineOpensTheBus : Prop :=
  ∀ (i : Instr) (line : List Byte) (s : State), runsLine i line → s.cfg.proto = .text →
    decodeSlcan line = .ok (.control .openBus) →
    ∃ (t : State) (r : CtlOutcome), exec .cmdOpen s = .next t ∧ t.ret = .ctl r ∧
      exec i s = .next { t with
        hout := s.hout ++ [if r = .ok then [0x0D#8] else [0x07#8]], ret := .decoded (.ok (.control .openBus)) }

/-- 44_dispatch_and_forwarding.md R245: a close line is `CMD_CLOSE` and an acknowledgment, in every bus state. -/
def Obligations.CloseLineClosesTheBus : Prop :=
  ∀ (i : Instr) (line : List Byte) (s : State), runsLine i line → s.cfg.proto = .text →
    decodeSlcan line = .ok (.control .closeBus) →
    ∃ t : State, exec .cmdClose s = .next t ∧
      exec i s = .next { t with hout := s.hout ++ [[0x0D#8]], ret := .decoded (.ok (.control .closeBus)) }

/-- 44_dispatch_and_forwarding.md R246: a bitrate line. Clauses: no timing under `Reject`; no timing at or below the
code; a native timing; the legacy downgrade to the largest lower code with a timing. -/
def Obligations.BitrateLineSetsTheTiming : Prop :=
  ∀ (i : Instr) (line : List Byte) (n : Fin 9) (s : State), runsLine i line → s.cfg.proto = .text →
    decodeSlcan line = .ok (.control (.setBitrate n)) →
    let ret := Ret.decoded (.ok (.control (.setBitrate n)))
    let served := fun (e : BitTiming) (warn : Bool) =>
      let s1 := { s with bt := e, btValid := true, warnFallback := warn }
      (s.busState = .closed → exec i s = .next { s1 with hout := s.hout ++ [[0x0D#8]], ret := ret }) ∧
      (s.busState ≠ .closed → ∃ (t : State) (r : CtlOutcome), exec (.configure e) s1 = .next t ∧ t.ret = .ctl r ∧
        exec i s = .next { t with hout := s.hout ++ [if r = .ok then [0x0D#8] else [0x07#8]], ret := ret })
    (timingEntry s.cfg n.val = none → s.cfg.fallback = .reject →
      exec i s = .next { s with hout := s.hout ++ [[0x07#8]], ret := ret }) ∧
    (timingEntry s.cfg n.val = none → s.cfg.fallback = .legacyDowngrade →
      (∀ m < n.val, timingEntry s.cfg m = none) →
      exec i s = .next { s with hout := s.hout ++ [[0x07#8]], ret := ret }) ∧
    (∀ e : BitTiming, timingEntry s.cfg n.val = some e → served e s.warnFallback) ∧
    (∀ (e : BitTiming) (m : Nat), timingEntry s.cfg n.val = none → s.cfg.fallback = .legacyDowngrade → m < n.val →
      timingEntry s.cfg m = some e → (∀ k, m < k → k < n.val → timingEntry s.cfg k = none) → served e true)

/-- 44_dispatch_and_forwarding.md R247: a version line gives its code and `\r`; no state changes. -/
def Obligations.VersionLineAnswers : Prop :=
  ∀ (i : Instr) (line : List Byte) (s : State), runsLine i line → s.cfg.proto = .text →
    (decodeSlcan line = .ok (.control .versionHw) →
      exec i s = .next { s with
        hout := s.hout ++ [s.cfg.verHw.toList ++ [0x0D#8]], ret := .decoded (.ok (.control .versionHw)) }) ∧
    (decodeSlcan line = .ok (.control .versionSw) →
      exec i s = .next { s with
        hout := s.hout ++ [s.cfg.verSw.toList ++ [0x0D#8]], ret := .decoded (.ok (.control .versionSw)) })

/-- 30_encoding.md R95: the four response units of the Text protocol, each emitted whole; the Binary protocol has none
of them (that it makes them not enabled is log 22). -/
def Obligations.ResponseUnits : Prop :=
  ∀ s : State,
    (s.cfg.proto = .text →
      exec .ack s = .next { s with hout := s.hout ++ [[0x0D#8]] } ∧
      exec .nak s = .next { s with hout := s.hout ++ [[0x07#8]] } ∧
      exec .verHw s = .next { s with hout := s.hout ++ [s.cfg.verHw.toList ++ [0x0D#8]] } ∧
      exec .verSw s = .next { s with hout := s.hout ++ [s.cfg.verSw.toList ++ [0x0D#8]] }) ∧
    (s.cfg.proto = .binary →
      exec .ack s = .fault .onlyText ∧ exec .nak s = .fault .onlyText ∧
      exec .verHw s = .fault .onlyText ∧ exec .verSw s = .fault .onlyText)

/-! ### Framers -/

/-- 42_framers.md R180 to R182 and R187: what one byte does to the line buffer; the Binary protocol has no line framer. -/
def Obligations.FrameByteBuffersOrExecutes : Prop :=
  ∀ (b : Byte) (s : State),
    (s.cfg.proto = .text → (b = 0x0D#8 ∨ b = 0x0A#8) → s.lb ≠ [] →
      (∃ t : State, exec (.frmByte b) s = .next t) ∧
      exec (.frmByte b) s = exec (.execLine s.lb) { s with lb := [] }) ∧
    (s.cfg.proto = .text → (b = 0x0D#8 ∨ b = 0x0A#8) → s.lb = [] → exec (.frmByte b) s = .next s) ∧
    (s.cfg.proto = .text → b ≠ 0x0D#8 → b ≠ 0x0A#8 → s.lb.length < 128 →
      exec (.frmByte b) s = .next { s with lb := s.lb ++ [b] }) ∧
    (s.cfg.proto = .text → b ≠ 0x0D#8 → b ≠ 0x0A#8 → 128 ≤ s.lb.length → exec (.frmByte b) s = .next s) ∧
    (s.cfg.proto = .binary → exec (.frmByte b) s = .fault .onlyText)

/-- 42_framers.md R183: an overflowed line is never accepted: one bell, whatever the 128 characters are. -/
def Obligations.OverflowedLineRejected : Prop :=
  ∀ (b : Byte) (s : State), s.cfg.proto = .text → (b = 0x0D#8 ∨ b = 0x0A#8) → s.lb.length = 128 →
    ∃ e : ParseErr, exec (.frmByte b) s =
      .next { s with lb := [], hout := s.hout ++ [[0x07#8]], ret := .decoded (.err e) }

/-- 42_framers.md R184, the loop: below one record the packet only accumulates; otherwise the first record is executed
and the loop goes on with the rest, until less than a record is left; the Text protocol has no packet framer. -/
def Obligations.PacketLoop : Prop :=
  ∀ (p : List Byte) (s : State),
    let buf := s.rb ++ p
    let size := hfSize s.cfg.hfLayout
    (s.cfg.proto = .binary → buf.length < size → exec (.frmPacket p) s = .next { s with rb := buf }) ∧
    (s.cfg.proto = .binary → size ≤ buf.length →
      ∃ t : State, exec (.execRecord (buf.take size)) { s with rb := buf.drop size } = .next t ∧
        exec (.frmPacket p) s = exec (.frmPacket []) t) ∧
    (s.cfg.proto = .binary → ∃ t : State, exec (.frmPacket p) s = .next t ∧ t.rb.length < size) ∧
    (s.cfg.proto = .text → exec (.frmPacket p) s = .fault .onlyBinary)

/-- After the step `len(RB) < HF_SIZE`, and what is left is what follows the whole records (42_framers.md R184); only
the buffer, the gate's effects and `HF_DEFECT` have changed. -/
def Obligations.PacketLeavesLessThanARecord : Prop :=
  ∀ (p : List Byte) (s : State), s.cfg.proto = .binary →
    ∃ t : State, exec (.frmPacket p) s = .next t ∧ t.rb.length < hfSize s.cfg.hfLayout ∧
      t.rb = (s.rb ++ p).drop (hfSize s.cfg.hfLayout * ((s.rb ++ p).length / hfSize s.cfg.hfLayout)) ∧
      t = { s with rb := t.rb, drvLog := t.drvLog, ansTransmit := t.ansTransmit, txDropCnt := t.txDropCnt,
                   hfDefect := t.hfDefect }

/-- 42_framers.md R186: the records depend only on the bytes, not on how packets group them. -/
def Obligations.PacketGroupingHasNoEffect : Prop :=
  ∀ (p q : List Byte) (s t : State), exec (.frmPacket p) s = .next t →
    exec (.frmPacket (p ++ q)) s = exec (.frmPacket q) t

/-! ### Binary codec -/

/-- 41_binary_codec.md R163: both round trips, in both layouts. -/
def Obligations.BinaryRoundTrip : Prop :=
  (∀ (lay : HfLayout) (f : CanFrame) (tag : U32), f.valid = true →
    decodeHostframe lay (encodeHostframe lay f tag) = { f with remote := false }) ∧
  (∀ (lay : HfLayout) (bytes : List Byte), bytes.length = hfSize lay → hostframeWellformed bytes = true →
    let again := encodeHostframe lay (decodeHostframe lay bytes) (BitVec.ofNat 32 (le32At bytes 0))
    again.length = hfSize lay ∧
    ∀ k < hfSize lay, byteAt again k =
      if (offData lay + (byteAt bytes 8).toNat ≤ k) ∨ (9 ≤ k ∧ k < offData lay) then 0#8 else byteAt bytes k)

/-- 41_binary_codec.md R162: the predicate, and that every encoded record meets it. -/
def Obligations.WellformedRecords : Prop :=
  (∀ bytes : List Byte,
    hostframeWellformed bytes = true ↔
      le32At bytes 4 / 2 ^ 29 % 4 = 0 ∧ (2 ^ 31 ≤ le32At bytes 4 ∨ le32At bytes 4 / 2 ^ 11 % 2 ^ 18 = 0) ∧
        (byteAt bytes 8).toNat ≤ 8) ∧
  (∀ (lay : HfLayout) (f : CanFrame) (tag : U32), f.valid = true →
    hostframeWellformed (encodeHostframe lay f tag) = true)

/-- 41_binary_codec.md R160: the frame a record decodes to, field by field, and that it is valid whatever the bytes
are; no flag is written. -/
def Obligations.DecHostframeReadsTheRecord : Prop :=
  ∀ (bytes : List Byte) (s : State), bytes.length = hfSize s.cfg.hfLayout →
    ∃ f : CanFrame, exec (.decHostframe bytes) s = .next { s with ret := .frame f } ∧ f.valid = true ∧
      (f.extended = true ↔ 2 ^ 31 ≤ le32At bytes 4) ∧
      f.id.toNat = (if f.extended then le32At bytes 4 % 2 ^ 29 else le32At bytes 4 % 2 ^ 11) ∧
      f.remote = false ∧ f.dlc.val = min (byteAt bytes 8).toNat 8 ∧
      ∀ i : Fin 8, f.data[i.val] =
        if i.val < f.dlc.val then byteAt bytes (offData s.cfg.hfLayout + i.val) else 0#8

/-- 41_binary_codec.md R161: the bytes of an encoded record; the remote flag leaves no trace in it. -/
def Obligations.EncHostframeWritesTheRecord : Prop :=
  ∀ (f : CanFrame) (tag : U32) (s : State), f.valid = true →
    ∃ u : List Byte, exec (.encHostframe f tag) s = .next { s with ret := .bytes u } ∧
      u.length = hfSize s.cfg.hfLayout ∧ le32At u 0 = tag.toNat ∧
      le32At u 4 = f.id.toNat + (if f.extended then 2 ^ 31 else 0) ∧ (byteAt u 8).toNat = f.dlc.val ∧
      (∀ i : Fin 8, byteAt u (offData s.cfg.hfLayout + i.val) = f.data[i.val]) ∧
      (∀ k, 9 ≤ k → k < offData s.cfg.hfLayout → byteAt u k = 0#8)

/-- 44_dispatch_and_forwarding.md R248: a record is decoded, a malformed one too, and offered to the transmit gate;
nothing is sent to the host. -/
def Obligations.RecordTransmits : Prop :=
  ∀ (bytes : List Byte) (s : State), bytes.length = hfSize s.cfg.hfLayout → s.cfg.proto = .binary →
    let f := decodeHostframe s.cfg.hfLayout bytes
    let defect := s.hfDefect || !hostframeWellformed bytes
    (s.busState = .opened → s.transmitAnswer = .ok →
      exec (.execRecord bytes) s = .next { s with
        hfDefect := defect, drvLog := s.drvLog ++ [.transmit f s.cfg.txTimeoutMs],
        ansTransmit := s.ansTransmit.rest }) ∧
    (s.busState = .opened → s.transmitAnswer ≠ .ok →
      exec (.execRecord bytes) s = .next { s with
        hfDefect := defect, drvLog := s.drvLog ++ [.transmit f s.cfg.txTimeoutMs],
        ansTransmit := s.ansTransmit.rest, txDropCnt := s.txDropCnt + 1 }) ∧
    (s.busState ≠ .opened →
      exec (.execRecord bytes) s = .next { s with hfDefect := defect, txDropCnt := s.txDropCnt + 1 })

/-! ### The bus-state machine -/

/-- 43_bus_state_machine.md R203: the calls made, the state and the error, for each pair of answers. -/
def Obligations.ConfigureRestartsTheInstance : Prop :=
  ∀ (e : BitTiming) (s : State),
    let s0 := { s with
      recReq := false, recResult := .none, recTimer := false, busState := .closed, ansInstall := s.ansInstall.rest }
    let calls := s.drvLog ++ teardownCalls s.busState ++ [.install e]
    (s.installAnswer = .fail →
      exec (.configure e) s = .next { s0 with
        inst := if s.busState = .closed then s.inst else none
        drvLog := calls, ctrlErr := some .installFailed, ret := .ctl (.err .installFailed) }) ∧
    (s.installAnswer = .ok → s.startAnswer = .fail →
      exec (.configure e) s = .next { s0 with
        inst := none, drvLog := calls ++ [.start, .uninstall], ansStart := s.ansStart.rest,
        ctrlErr := some .startFailed, ret := .ctl (.err .startFailed) }) ∧
    (s.installAnswer = .ok → s.startAnswer = .ok →
      exec (.configure e) s = .next { s0 with
        busState := .opened, inst := some { timing := e, started := true }, drvLog := calls ++ [.start],
        ansStart := s.ansStart.rest, ctrlErr := none, ret := .ctl .ok })

/-- 43_bus_state_machine.md R204: close, from every bus state. -/
def Obligations.CloseStopsTheInstance : Prop :=
  ∀ s : State, exec .cmdClose s = .next { s with
    busState := .closed, recReq := false, recResult := .none, recTimer := false
    inst := if s.busState = .closed then s.inst else none
    drvLog := s.drvLog ++ teardownCalls s.busState, ret := .ctl .ok }

/-- 43_bus_state_machine.md R205: open is a configure with `BT`, and fails without a driver call before any bit timing
has been written. -/
def Obligations.OpenConfiguresWithCurrentTiming : Prop :=
  ∀ s : State,
    (s.btValid = false →
      exec .cmdOpen s = .next { s with ctrlErr := some .notConfigured, ret := .ctl (.err .notConfigured) }) ∧
    (s.btValid = true → exec .cmdOpen s = exec (.configure s.bt) s ∧ ∃ t : State, exec .cmdOpen s = .next t)

/-- 43_bus_state_machine.md R206: the gate calls the driver only in `Open`, and writes no flag. -/
def Obligations.TransmitGate : Prop :=
  ∀ (f : CanFrame) (s : State), f.valid = true →
    (s.busState ≠ .opened → exec (.txGate f) s = .next { s with ret := .tx (.err .notOpen) }) ∧
    (s.busState = .opened →
      exec (.txGate f) s = .next { s with
        drvLog := s.drvLog ++ [.transmit f s.cfg.txTimeoutMs], ansTransmit := s.ansTransmit.rest
        ret := .tx (match s.transmitAnswer with
          | .ok => .ok
          | .timeout => .err .timeout
          | .error => .err .driver) })

/-- 43_bus_state_machine.md R210: a bus-off report takes effect in `Open` only. -/
def Obligations.BusOffReport : Prop :=
  ∀ s : State,
    (s.busState = .opened → exec .evBusoff s = .next { s with busState := .busOff, recReq := true }) ∧
    (s.busState ≠ .opened → exec .evBusoff s = .next s)

/-- 43_bus_state_machine.md R211: recovery is initiated exactly when it is requested in `BusOff`; elsewhere the step is
not enabled (log 4). -/
def Obligations.RecoveryStart : Prop :=
  ∀ s : State,
    (s.busState = .busOff → s.recReq = true →
      exec .recStart s = .next { s with
        recReq := false, busState := .recovering, recTimer := true, drvLog := s.drvLog ++ [.initiateRecovery] }) ∧
    (s.busState ≠ .busOff ∨ s.recReq = false → exec .recStart s = .fault .noRecoveryRequested)

/-- 43_bus_state_machine.md R212: a recovery-complete signal takes effect in `Recovering` only. -/
def Obligations.RecoveryDone : Prop :=
  ∀ s : State,
    (s.busState = .recovering →
      exec .evRecDone s = .next { s with busState := .opened, recResult := .ok, recTimer := false }) ∧
    (s.busState ≠ .recovering → exec .evRecDone s = .next s)

/-- 43_bus_state_machine.md R213: the bound expires in `Recovering` only, elsewhere the event is not enabled (log 4);
`REC_REQ` is not set. -/
def Obligations.RecoveryTimeout : Prop :=
  ∀ s : State,
    (s.busState = .recovering →
      exec .evRecTimeout s = .next { s with
        busState := .busOff, recResult := .timeout, recTimer := false, ctrlErr := some .recoveryTimeout }) ∧
    (s.busState ≠ .recovering → exec .evRecTimeout s = .fault .notRecovering)

/-- 43_bus_state_machine.md R215: a fatal error closes the bus and is recorded; in `Closed` it is ignored. -/
def Obligations.FatalErrorCloses : Prop :=
  ∀ s : State,
    (s.busState ≠ .closed →
      exec .evFatal s = .next { s with
        busState := .closed, recReq := false, recResult := .none, recTimer := false, inst := none
        drvLog := s.drvLog ++ [.stop, .uninstall], ctrlErr := some .fatal }) ∧
    (s.busState = .closed → exec .evFatal s = .next s)

/-- 43_bus_state_machine.md R216: a check requests recovery in `BusOff` only, and issuing it twice is issuing it
once. -/
def Obligations.CheckRequestsRecovery : Prop :=
  (∀ s : State, s.busState = .busOff → exec .cmdCheck s = .next { s with recReq := true }) ∧
  (∀ s : State, s.busState ≠ .busOff → exec .cmdCheck s = .next s) ∧
  (∀ s t : State, exec .cmdCheck s = .next t → exec .cmdCheck t = .next t)

/-- 43_bus_state_machine.md R200: the only ways into `BusOff`, `Recovering` and `Open`. The last driver call of a
successful configure is `start`. So, R217 (d): between two calls of `initiate_recovery()` in a run there is an
`EV_REC_TIMEOUT`, or a configure followed by a new `EV_BUSOFF` (after a close the bus is configured before it can go
bus-off), or, as P3 of 95_test_vectors.md shows and (d) leaves out, an `EV_REC_DONE` followed by one (log 17). -/
def Obligations.OnlyTheseOperationsEnter : Prop :=
  (∀ (i : Instr) (s t : State), exec i s = .next t → t.busState ≠ s.busState →
    (t.busState = .busOff →
      (i = .evBusoff ∧ s.busState = .opened) ∨ (i = .evRecTimeout ∧ s.busState = .recovering)) ∧
    (t.busState = .recovering → i = .recStart ∧ s.busState = .busOff ∧ s.recReq = true) ∧
    (t.busState = .opened →
      (i = .evRecDone ∧ s.busState = .recovering) ∨
        ∃ e : BitTiming, t.drvLog = s.drvLog ++ teardownCalls s.busState ++ [.install e, .start])) ∧
  (∀ (ρ : Nat → State) (i j : Nat), Run ρ → i < j → recoveryCallAt ρ i → recoveryCallAt ρ j →
    (∃ k, i < k ∧ k < j ∧ takesAt ρ k (.op .evRecTimeout) ∧ (ρ k).busState = .recovering) ∨
    (∃ k l, i < k ∧ k < l ∧ l < j ∧ busOffAt ρ l ∧
      (configuredAt ρ k ∨ (takesAt ρ k (.op .evRecDone) ∧ (ρ k).busState = .recovering))))

/-- 43_bus_state_machine.md R217 (e): `drv.transmit` is called only in state `Open`. -/
def Obligations.TransmitCalledOnlyWhenOpen : Prop :=
  ∀ (i : Instr) (s t : State), exec i s = .next t →
    ∃ calls : List DrvCall, t.drvLog = s.drvLog ++ calls ∧
      ∀ (f : CanFrame) (ms : Nat), .transmit f ms ∈ calls → s.busState = .opened ∧ ms = s.cfg.txTimeoutMs

/-- 10_state.md R32: `BT` is not read while `BT_VALID = 0`: two runs that differ only in it go alike, and differ only
in it until one of them writes it. -/
def Obligations.InvalidTimingNeverRead : Prop :=
  ∀ (i : Instr) (s : State) (x : BitTiming), s.btValid = false →
    exec i { s with bt := x } =
      match exec i s with
      | .next t => .next (if t.btValid then t else { t with bt := x })
      | .fault r => .fault r
      | .refused r => .refused r

/-- 43_bus_state_machine.md R218: the run `Open → BusOff → Recovering → Open`; every transmit tried in between gets
`NotOpen`, reaches no driver and is counted, in either protocol; one recovery is initiated. -/
def Obligations.RecoveryScenario : Prop :=
  ∀ (s : State) (f : CanFrame), s.busState = .opened → f.valid = true →
    ∃ s1 s2 s3 : State, exec .evBusoff s = .next s1 ∧ exec .recStart s1 = .next s2 ∧ exec .evRecDone s2 = .next s3 ∧
      s1.busState = .busOff ∧ s2.busState = .recovering ∧ s3.busState = .opened ∧ s3.recResult = .ok ∧
      s3.drvLog = s.drvLog ++ [.initiateRecovery] ∧ s3.hout = s.hout ∧ s3.oq = s.oq ∧ s3.txDropCnt = s.txDropCnt ∧
      ∀ u : State, u = s1 ∨ u = s2 →
        exec (.txGate f) u = .next { u with ret := .tx (.err .notOpen) } ∧
        (u.cfg.proto = .text →
          ∀ line : List Byte, decodeSlcan line = .ok (.frame f) →
            exec (.execLine line) u = .next { u with
              txDropCnt := u.txDropCnt + 1, hout := u.hout ++ [[0x07#8]], ret := .decoded (.ok (.frame f)) }) ∧
        (∀ bytes : List Byte, u.cfg.proto = .binary → bytes.length = hfSize u.cfg.hfLayout →
          exec (.execRecord bytes) u = .next { u with
            hfDefect := u.hfDefect || !hostframeWellformed bytes, txDropCnt := u.txDropCnt + 1 })

/-- 10_state.md R33, R38, R47: flags that only reset clears. -/
def Obligations.StickyFlagsStaySet : Prop :=
  ∀ (i : Instr) (s t : State), exec i s = .next t →
    (s.btValid = true → t.btValid = true) ∧ (s.warnFallback = true → t.warnFallback = true) ∧
    (s.hfDefect = true → t.hfDefect = true)

/-- 10_state.md R46: `RX_DROP_CNT` counts, one by one, exactly the bus frames that find `OQ` full; outside the record
operations `TX_DROP_CNT` counts, one by one, frame lines answered by a bell. -/
def Obligations.DropCountersCountDrops : Prop :=
  ∀ (i : Instr) (s t : State), exec i s = .next t →
    ((t.rxDropCnt = s.rxDropCnt ∧ ¬∃ f : CanFrame, i = .evBusRx f ∧ 128 ≤ s.oq.length) ∨
      (t.rxDropCnt = s.rxDropCnt + 1 ∧ ∃ f : CanFrame, i = .evBusRx f ∧ 128 ≤ s.oq.length)) ∧
    (t.txDropCnt = s.txDropCnt ∨
      (t.txDropCnt = s.txDropCnt + 1 ∧ t.hout = s.hout ++ [[0x07#8]] ∧
        ∃ f : CanFrame, t.ret = .decoded (.ok (.frame f))) ∨
      (∃ bytes : List Byte, i = .execRecord bytes ∨ i = .frmPacket bytes))

/-- 10_state.md R43, R44: what has been written toward the host, the control port and the driver stays written. -/
def Obligations.OutputsOnlyGrow : Prop :=
  ∀ (i : Instr) (s t : State), exec i s = .next t →
    s.hout <+: t.hout ∧ s.cout <+: t.cout ∧ s.drvLog <+: t.drvLog

/-- 10_state.md R40 and 20_memory.md R68: `OQ` is first in, first out; only a bus frame enters it, at the tail, and only
the writer takes from it, at the head, to `HOUT`. 20_memory.md R72: in a weakly fair run every unit that waits is written
to the host, after those before it and before those behind it. -/
def Obligations.QueueIsFifo : Prop :=
  (∀ (i : Instr) (s t : State), exec i s = .next t →
    t.oq = s.oq ∨ (∃ f : CanFrame, i = .evBusRx f ∧ t.oq = s.oq ++ [encodeUnit s.cfg f] ∧ s.oq.length < 128) ∨
      (∃ u : List Byte, i = .htxPop ∧ s.oq = u :: t.oq ∧ t.hout = s.hout ++ [u])) ∧
  (∀ (ρ : Nat → State) (n : Nat) (before behind : List (List Byte)) (u : List Byte), Run ρ → WeaklyFair ρ →
    (ρ n).oq = before ++ u :: behind →
    ∃ m, n ≤ m ∧ takesAt ρ m (.op .htxPop) ∧ (∃ more : List (List Byte), (ρ m).oq = u :: behind ++ more) ∧
      (ρ (m + 1)).hout = (ρ m).hout ++ [u])

/-! ### Control commands -/

/-- 44_dispatch_and_forwarding.md R253: acknowledged, without effect. -/
def Obligations.HostFormatHasNoEffect : Prop :=
  ∀ (v : Nat) (s : State), s.cfg.proto = .binary → exec (.hostFormat v) s = .next { s with cout := s.cout ++ [.ack] }

/-- 44_dispatch_and_forwarding.md R254: stored and acknowledged, in any state, with no driver call. -/
def Obligations.SetBittimingStores : Prop :=
  ∀ (e : BitTiming) (s : State), s.cfg.proto = .binary →
    exec (.setBittiming e) s = .next { s with bt := e, btValid := true, cout := s.cout ++ [.ack] }

/-- 44_dispatch_and_forwarding.md R255, R256: mode start is `CMD_OPEN`, mode stop is `CMD_CLOSE`; the response is their
result. -/
def Obligations.ModeStartAndStop : Prop :=
  ∀ s : State, s.cfg.proto = .binary →
    (∃ (t : State) (r : CtlOutcome), exec .cmdOpen s = .next t ∧ t.ret = .ctl r ∧
      exec .modeStart s = .next { t with
        ret := s.ret, cout := s.cout ++ [match r with | .ok => .ack | .err e => .err e] }) ∧
    (∃ t : State, exec .cmdClose s = .next t ∧
      exec .modeStop s = .next { t with ret := s.ret, cout := s.cout ++ [.ack] })

/-- 44_dispatch_and_forwarding.md R257, R258: the readbacks give their constant, an unrecognised command is answered so;
no state changes. -/
def Obligations.ReadbacksAndUnknownCommand : Prop :=
  ∀ s : State, s.cfg.proto = .binary →
    exec .btConst s = .next { s with cout := s.cout ++ [.data s.cfg.btConstBlob] } ∧
    exec .deviceConfig s = .next { s with cout := s.cout ++ [.data s.cfg.deviceConfigBlob] } ∧
    exec .ctlOther s = .next { s with cout := s.cout ++ [.unknown] }

/-- 44_dispatch_and_forwarding.md R252: `CTL` takes one command from `CIN` per step and appends exactly one response to
`COUT`, in the Binary protocol only; nothing toward the host, no framer, queue or counter changes. -/
def Obligations.EveryCommandOneResponse : Prop :=
  ∀ (c : CtlCmd) (cs : List CtlCmd) (rest : List Turn) (s : State), s.turns = .ctl :: rest → s.cin = c :: cs →
    (s.cfg.proto = .binary →
      ∃ (t : State) (r : CtlResp), step s = .next t ∧ t.turns = rest ∧ t.cin = cs ∧ t.cout = s.cout ++ [r] ∧
        exec (ctlInstr c) { s with turns := rest, ret := .none, cin := cs } = .next t ∧
        t.hout = s.hout ∧ t.oq = s.oq ∧ t.rb = s.rb ∧ t.lb = s.lb ∧ t.cfg = s.cfg ∧ t.rxDropCnt = s.rxDropCnt ∧
        t.txDropCnt = s.txDropCnt ∧ t.hfDefect = s.hfDefect ∧ t.warnFallback = s.warnFallback) ∧
    (s.cfg.proto = .text →
      step s = .next { s with turns := rest, ret := .none } ∧ ∀ u : State, u.cfg = s.cfg →
        exec (ctlInstr c) u = .fault .onlyBinary)

/-! ### Bus to host -/

/-- 44_dispatch_and_forwarding.md R260: a bus frame is encoded and queued, or dropped and counted when 128 units wait;
it cannot arrive in `Closed` (log 4). -/
def Obligations.BusFrameQueuedOrCounted : Prop :=
  ∀ (f : CanFrame) (s : State), f.valid = true →
    (s.busState ≠ .closed → s.oq.length < 128 → s.cfg.proto = .text →
      exec (.evBusRx f) s = .next { s with oq := s.oq ++ [encodeSlcan f] }) ∧
    (s.busState ≠ .closed → s.oq.length < 128 → s.cfg.proto = .binary →
      exec (.evBusRx f) s = .next { s with oq := s.oq ++ [encodeHostframe s.cfg.hfLayout f 0xFFFFFFFF#32] }) ∧
    (s.busState ≠ .closed → 128 ≤ s.oq.length →
      exec (.evBusRx f) s = .next { s with rxDropCnt := s.rxDropCnt + 1 }) ∧
    (s.busState = .closed → exec (.evBusRx f) s = .fault .noInstance)

/-- 44_dispatch_and_forwarding.md R262: the writer moves the head of the queue to the host, in every bus state. -/
def Obligations.WriterMovesTheHead : Prop :=
  ∀ s : State,
    (∀ (u : List Byte) (rest : List (List Byte)), s.oq = u :: rest →
      exec .htxPop s = .next { s with oq := rest, hout := s.hout ++ [u] }) ∧
    (s.oq = [] → exec .htxPop s = .fault .queueEmpty)

/-- 70_reset_and_hazards.md R336: a bare `\r` in `HOUT` is always an acknowledgment and a `\a` an error: no encoded
line and no version response starts with either byte. -/
def Obligations.TokensAreUnambiguous : Prop :=
  ∀ (s : State) (u : List Byte), Inv s → s.cfg.proto = .text → u ∈ s.hout →
    (u.head? = some 0x0D#8 → u = [0x0D#8]) ∧ (u.head? = some 0x07#8 → u = [0x07#8]) ∧ u ≠ []
end

