-- ==== Sys2Proof/Laws/State.lean ====
section
/-! SUPPORT. One lemma per field per named update of `State`, true by `rfl`: no later proof unfolds an update. -/

namespace Sys2Proof.Machine

@[simp] theorem State.emit_cfg (s : State) (u : List Byte) : (s.emit u).cfg = s.cfg := rfl
@[simp] theorem State.emit_lb (s : State) (u : List Byte) : (s.emit u).lb = s.lb := rfl
@[simp] theorem State.emit_rb (s : State) (u : List Byte) : (s.emit u).rb = s.rb := rfl
@[simp] theorem State.emit_busState (s : State) (u : List Byte) : (s.emit u).busState = s.busState := rfl
@[simp] theorem State.emit_bt (s : State) (u : List Byte) : (s.emit u).bt = s.bt := rfl
@[simp] theorem State.emit_btValid (s : State) (u : List Byte) : (s.emit u).btValid = s.btValid := rfl
@[simp] theorem State.emit_recReq (s : State) (u : List Byte) : (s.emit u).recReq = s.recReq := rfl
@[simp] theorem State.emit_recResult (s : State) (u : List Byte) : (s.emit u).recResult = s.recResult := rfl
@[simp] theorem State.emit_ctrlErr (s : State) (u : List Byte) : (s.emit u).ctrlErr = s.ctrlErr := rfl
@[simp] theorem State.emit_warnFallback (s : State) (u : List Byte) : (s.emit u).warnFallback = s.warnFallback := rfl
@[simp] theorem State.emit_oq (s : State) (u : List Byte) : (s.emit u).oq = s.oq := rfl
@[simp] theorem State.emit_rxDropCnt (s : State) (u : List Byte) : (s.emit u).rxDropCnt = s.rxDropCnt := rfl
@[simp] theorem State.emit_txDropCnt (s : State) (u : List Byte) : (s.emit u).txDropCnt = s.txDropCnt := rfl
@[simp] theorem State.emit_hfDefect (s : State) (u : List Byte) : (s.emit u).hfDefect = s.hfDefect := rfl
@[simp] theorem State.emit_hinText (s : State) (u : List Byte) : (s.emit u).hinText = s.hinText := rfl
@[simp] theorem State.emit_hinBin (s : State) (u : List Byte) : (s.emit u).hinBin = s.hinBin := rfl
@[simp] theorem State.emit_hout (s : State) (u : List Byte) : (s.emit u).hout = s.hout ++ [u] := rfl
@[simp] theorem State.emit_cin (s : State) (u : List Byte) : (s.emit u).cin = s.cin := rfl
@[simp] theorem State.emit_cout (s : State) (u : List Byte) : (s.emit u).cout = s.cout := rfl
@[simp] theorem State.emit_inst (s : State) (u : List Byte) : (s.emit u).inst = s.inst := rfl
@[simp] theorem State.emit_recTimer (s : State) (u : List Byte) : (s.emit u).recTimer = s.recTimer := rfl
@[simp] theorem State.emit_drvLog (s : State) (u : List Byte) : (s.emit u).drvLog = s.drvLog := rfl
@[simp] theorem State.emit_ansInstall (s : State) (u : List Byte) : (s.emit u).ansInstall = s.ansInstall := rfl
@[simp] theorem State.emit_ansStart (s : State) (u : List Byte) : (s.emit u).ansStart = s.ansStart := rfl
@[simp] theorem State.emit_ansTransmit (s : State) (u : List Byte) : (s.emit u).ansTransmit = s.ansTransmit := rfl
@[simp] theorem State.emit_turns (s : State) (u : List Byte) : (s.emit u).turns = s.turns := rfl
@[simp] theorem State.emit_ret (s : State) (u : List Byte) : (s.emit u).ret = s.ret := rfl

@[simp] theorem State.respond_cfg (s : State) (r : CtlResp) : (s.respond r).cfg = s.cfg := rfl
@[simp] theorem State.respond_lb (s : State) (r : CtlResp) : (s.respond r).lb = s.lb := rfl
@[simp] theorem State.respond_rb (s : State) (r : CtlResp) : (s.respond r).rb = s.rb := rfl
@[simp] theorem State.respond_busState (s : State) (r : CtlResp) : (s.respond r).busState = s.busState := rfl
@[simp] theorem State.respond_bt (s : State) (r : CtlResp) : (s.respond r).bt = s.bt := rfl
@[simp] theorem State.respond_btValid (s : State) (r : CtlResp) : (s.respond r).btValid = s.btValid := rfl
@[simp] theorem State.respond_recReq (s : State) (r : CtlResp) : (s.respond r).recReq = s.recReq := rfl
@[simp] theorem State.respond_recResult (s : State) (r : CtlResp) : (s.respond r).recResult = s.recResult := rfl
@[simp] theorem State.respond_ctrlErr (s : State) (r : CtlResp) : (s.respond r).ctrlErr = s.ctrlErr := rfl
@[simp] theorem State.respond_warnFallback (s : State) (r : CtlResp) : (s.respond r).warnFallback = s.warnFallback := rfl
@[simp] theorem State.respond_oq (s : State) (r : CtlResp) : (s.respond r).oq = s.oq := rfl
@[simp] theorem State.respond_rxDropCnt (s : State) (r : CtlResp) : (s.respond r).rxDropCnt = s.rxDropCnt := rfl
@[simp] theorem State.respond_txDropCnt (s : State) (r : CtlResp) : (s.respond r).txDropCnt = s.txDropCnt := rfl
@[simp] theorem State.respond_hfDefect (s : State) (r : CtlResp) : (s.respond r).hfDefect = s.hfDefect := rfl
@[simp] theorem State.respond_hinText (s : State) (r : CtlResp) : (s.respond r).hinText = s.hinText := rfl
@[simp] theorem State.respond_hinBin (s : State) (r : CtlResp) : (s.respond r).hinBin = s.hinBin := rfl
@[simp] theorem State.respond_hout (s : State) (r : CtlResp) : (s.respond r).hout = s.hout := rfl
@[simp] theorem State.respond_cin (s : State) (r : CtlResp) : (s.respond r).cin = s.cin := rfl
@[simp] theorem State.respond_cout (s : State) (r : CtlResp) : (s.respond r).cout = s.cout ++ [r] := rfl
@[simp] theorem State.respond_inst (s : State) (r : CtlResp) : (s.respond r).inst = s.inst := rfl
@[simp] theorem State.respond_recTimer (s : State) (r : CtlResp) : (s.respond r).recTimer = s.recTimer := rfl
@[simp] theorem State.respond_drvLog (s : State) (r : CtlResp) : (s.respond r).drvLog = s.drvLog := rfl
@[simp] theorem State.respond_ansInstall (s : State) (r : CtlResp) : (s.respond r).ansInstall = s.ansInstall := rfl
@[simp] theorem State.respond_ansStart (s : State) (r : CtlResp) : (s.respond r).ansStart = s.ansStart := rfl
@[simp] theorem State.respond_ansTransmit (s : State) (r : CtlResp) : (s.respond r).ansTransmit = s.ansTransmit := rfl
@[simp] theorem State.respond_turns (s : State) (r : CtlResp) : (s.respond r).turns = s.turns := rfl
@[simp] theorem State.respond_ret (s : State) (r : CtlResp) : (s.respond r).ret = s.ret := rfl

@[simp] theorem State.call_cfg (s : State) (c : DrvCall) : (s.call c).cfg = s.cfg := rfl
@[simp] theorem State.call_lb (s : State) (c : DrvCall) : (s.call c).lb = s.lb := rfl
@[simp] theorem State.call_rb (s : State) (c : DrvCall) : (s.call c).rb = s.rb := rfl
@[simp] theorem State.call_busState (s : State) (c : DrvCall) : (s.call c).busState = s.busState := rfl
@[simp] theorem State.call_bt (s : State) (c : DrvCall) : (s.call c).bt = s.bt := rfl
@[simp] theorem State.call_btValid (s : State) (c : DrvCall) : (s.call c).btValid = s.btValid := rfl
@[simp] theorem State.call_recReq (s : State) (c : DrvCall) : (s.call c).recReq = s.recReq := rfl
@[simp] theorem State.call_recResult (s : State) (c : DrvCall) : (s.call c).recResult = s.recResult := rfl
@[simp] theorem State.call_ctrlErr (s : State) (c : DrvCall) : (s.call c).ctrlErr = s.ctrlErr := rfl
@[simp] theorem State.call_warnFallback (s : State) (c : DrvCall) : (s.call c).warnFallback = s.warnFallback := rfl
@[simp] theorem State.call_oq (s : State) (c : DrvCall) : (s.call c).oq = s.oq := rfl
@[simp] theorem State.call_rxDropCnt (s : State) (c : DrvCall) : (s.call c).rxDropCnt = s.rxDropCnt := rfl
@[simp] theorem State.call_txDropCnt (s : State) (c : DrvCall) : (s.call c).txDropCnt = s.txDropCnt := rfl
@[simp] theorem State.call_hfDefect (s : State) (c : DrvCall) : (s.call c).hfDefect = s.hfDefect := rfl
@[simp] theorem State.call_hinText (s : State) (c : DrvCall) : (s.call c).hinText = s.hinText := rfl
@[simp] theorem State.call_hinBin (s : State) (c : DrvCall) : (s.call c).hinBin = s.hinBin := rfl
@[simp] theorem State.call_hout (s : State) (c : DrvCall) : (s.call c).hout = s.hout := rfl
@[simp] theorem State.call_cin (s : State) (c : DrvCall) : (s.call c).cin = s.cin := rfl
@[simp] theorem State.call_cout (s : State) (c : DrvCall) : (s.call c).cout = s.cout := rfl
@[simp] theorem State.call_inst (s : State) (c : DrvCall) : (s.call c).inst = s.inst := rfl
@[simp] theorem State.call_recTimer (s : State) (c : DrvCall) : (s.call c).recTimer = s.recTimer := rfl
@[simp] theorem State.call_drvLog (s : State) (c : DrvCall) : (s.call c).drvLog = s.drvLog ++ [c] := rfl
@[simp] theorem State.call_ansInstall (s : State) (c : DrvCall) : (s.call c).ansInstall = s.ansInstall := rfl
@[simp] theorem State.call_ansStart (s : State) (c : DrvCall) : (s.call c).ansStart = s.ansStart := rfl
@[simp] theorem State.call_ansTransmit (s : State) (c : DrvCall) : (s.call c).ansTransmit = s.ansTransmit := rfl
@[simp] theorem State.call_turns (s : State) (c : DrvCall) : (s.call c).turns = s.turns := rfl
@[simp] theorem State.call_ret (s : State) (c : DrvCall) : (s.call c).ret = s.ret := rfl

@[simp] theorem State.setRet_cfg (s : State) (r : Ret) : (s.setRet r).cfg = s.cfg := rfl
@[simp] theorem State.setRet_lb (s : State) (r : Ret) : (s.setRet r).lb = s.lb := rfl
@[simp] theorem State.setRet_rb (s : State) (r : Ret) : (s.setRet r).rb = s.rb := rfl
@[simp] theorem State.setRet_busState (s : State) (r : Ret) : (s.setRet r).busState = s.busState := rfl
@[simp] theorem State.setRet_bt (s : State) (r : Ret) : (s.setRet r).bt = s.bt := rfl
@[simp] theorem State.setRet_btValid (s : State) (r : Ret) : (s.setRet r).btValid = s.btValid := rfl
@[simp] theorem State.setRet_recReq (s : State) (r : Ret) : (s.setRet r).recReq = s.recReq := rfl
@[simp] theorem State.setRet_recResult (s : State) (r : Ret) : (s.setRet r).recResult = s.recResult := rfl
@[simp] theorem State.setRet_ctrlErr (s : State) (r : Ret) : (s.setRet r).ctrlErr = s.ctrlErr := rfl
@[simp] theorem State.setRet_warnFallback (s : State) (r : Ret) : (s.setRet r).warnFallback = s.warnFallback := rfl
@[simp] theorem State.setRet_oq (s : State) (r : Ret) : (s.setRet r).oq = s.oq := rfl
@[simp] theorem State.setRet_rxDropCnt (s : State) (r : Ret) : (s.setRet r).rxDropCnt = s.rxDropCnt := rfl
@[simp] theorem State.setRet_txDropCnt (s : State) (r : Ret) : (s.setRet r).txDropCnt = s.txDropCnt := rfl
@[simp] theorem State.setRet_hfDefect (s : State) (r : Ret) : (s.setRet r).hfDefect = s.hfDefect := rfl
@[simp] theorem State.setRet_hinText (s : State) (r : Ret) : (s.setRet r).hinText = s.hinText := rfl
@[simp] theorem State.setRet_hinBin (s : State) (r : Ret) : (s.setRet r).hinBin = s.hinBin := rfl
@[simp] theorem State.setRet_hout (s : State) (r : Ret) : (s.setRet r).hout = s.hout := rfl
@[simp] theorem State.setRet_cin (s : State) (r : Ret) : (s.setRet r).cin = s.cin := rfl
@[simp] theorem State.setRet_cout (s : State) (r : Ret) : (s.setRet r).cout = s.cout := rfl
@[simp] theorem State.setRet_inst (s : State) (r : Ret) : (s.setRet r).inst = s.inst := rfl
@[simp] theorem State.setRet_recTimer (s : State) (r : Ret) : (s.setRet r).recTimer = s.recTimer := rfl
@[simp] theorem State.setRet_drvLog (s : State) (r : Ret) : (s.setRet r).drvLog = s.drvLog := rfl
@[simp] theorem State.setRet_ansInstall (s : State) (r : Ret) : (s.setRet r).ansInstall = s.ansInstall := rfl
@[simp] theorem State.setRet_ansStart (s : State) (r : Ret) : (s.setRet r).ansStart = s.ansStart := rfl
@[simp] theorem State.setRet_ansTransmit (s : State) (r : Ret) : (s.setRet r).ansTransmit = s.ansTransmit := rfl
@[simp] theorem State.setRet_turns (s : State) (r : Ret) : (s.setRet r).turns = s.turns := rfl
@[simp] theorem State.setRet_ret (s : State) (r : Ret) : (s.setRet r).ret = r := rfl

@[simp] theorem State.setDefect_cfg (s : State) : s.setDefect.cfg = s.cfg := rfl
@[simp] theorem State.setDefect_lb (s : State) : s.setDefect.lb = s.lb := rfl
@[simp] theorem State.setDefect_rb (s : State) : s.setDefect.rb = s.rb := rfl
@[simp] theorem State.setDefect_busState (s : State) : s.setDefect.busState = s.busState := rfl
@[simp] theorem State.setDefect_bt (s : State) : s.setDefect.bt = s.bt := rfl
@[simp] theorem State.setDefect_btValid (s : State) : s.setDefect.btValid = s.btValid := rfl
@[simp] theorem State.setDefect_recReq (s : State) : s.setDefect.recReq = s.recReq := rfl
@[simp] theorem State.setDefect_recResult (s : State) : s.setDefect.recResult = s.recResult := rfl
@[simp] theorem State.setDefect_ctrlErr (s : State) : s.setDefect.ctrlErr = s.ctrlErr := rfl
@[simp] theorem State.setDefect_warnFallback (s : State) : s.setDefect.warnFallback = s.warnFallback := rfl
@[simp] theorem State.setDefect_oq (s : State) : s.setDefect.oq = s.oq := rfl
@[simp] theorem State.setDefect_rxDropCnt (s : State) : s.setDefect.rxDropCnt = s.rxDropCnt := rfl
@[simp] theorem State.setDefect_txDropCnt (s : State) : s.setDefect.txDropCnt = s.txDropCnt := rfl
@[simp] theorem State.setDefect_hfDefect (s : State) : s.setDefect.hfDefect = true := rfl
@[simp] theorem State.setDefect_hinText (s : State) : s.setDefect.hinText = s.hinText := rfl
@[simp] theorem State.setDefect_hinBin (s : State) : s.setDefect.hinBin = s.hinBin := rfl
@[simp] theorem State.setDefect_hout (s : State) : s.setDefect.hout = s.hout := rfl
@[simp] theorem State.setDefect_cin (s : State) : s.setDefect.cin = s.cin := rfl
@[simp] theorem State.setDefect_cout (s : State) : s.setDefect.cout = s.cout := rfl
@[simp] theorem State.setDefect_inst (s : State) : s.setDefect.inst = s.inst := rfl
@[simp] theorem State.setDefect_recTimer (s : State) : s.setDefect.recTimer = s.recTimer := rfl
@[simp] theorem State.setDefect_drvLog (s : State) : s.setDefect.drvLog = s.drvLog := rfl
@[simp] theorem State.setDefect_ansInstall (s : State) : s.setDefect.ansInstall = s.ansInstall := rfl
@[simp] theorem State.setDefect_ansStart (s : State) : s.setDefect.ansStart = s.ansStart := rfl
@[simp] theorem State.setDefect_ansTransmit (s : State) : s.setDefect.ansTransmit = s.ansTransmit := rfl
@[simp] theorem State.setDefect_turns (s : State) : s.setDefect.turns = s.turns := rfl
@[simp] theorem State.setDefect_ret (s : State) : s.setDefect.ret = s.ret := rfl

@[simp] theorem State.setWarn_cfg (s : State) : s.setWarn.cfg = s.cfg := rfl
@[simp] theorem State.setWarn_lb (s : State) : s.setWarn.lb = s.lb := rfl
@[simp] theorem State.setWarn_rb (s : State) : s.setWarn.rb = s.rb := rfl
@[simp] theorem State.setWarn_busState (s : State) : s.setWarn.busState = s.busState := rfl
@[simp] theorem State.setWarn_bt (s : State) : s.setWarn.bt = s.bt := rfl
@[simp] theorem State.setWarn_btValid (s : State) : s.setWarn.btValid = s.btValid := rfl
@[simp] theorem State.setWarn_recReq (s : State) : s.setWarn.recReq = s.recReq := rfl
@[simp] theorem State.setWarn_recResult (s : State) : s.setWarn.recResult = s.recResult := rfl
@[simp] theorem State.setWarn_ctrlErr (s : State) : s.setWarn.ctrlErr = s.ctrlErr := rfl
@[simp] theorem State.setWarn_warnFallback (s : State) : s.setWarn.warnFallback = true := rfl
@[simp] theorem State.setWarn_oq (s : State) : s.setWarn.oq = s.oq := rfl
@[simp] theorem State.setWarn_rxDropCnt (s : State) : s.setWarn.rxDropCnt = s.rxDropCnt := rfl
@[simp] theorem State.setWarn_txDropCnt (s : State) : s.setWarn.txDropCnt = s.txDropCnt := rfl
@[simp] theorem State.setWarn_hfDefect (s : State) : s.setWarn.hfDefect = s.hfDefect := rfl
@[simp] theorem State.setWarn_hinText (s : State) : s.setWarn.hinText = s.hinText := rfl
@[simp] theorem State.setWarn_hinBin (s : State) : s.setWarn.hinBin = s.hinBin := rfl
@[simp] theorem State.setWarn_hout (s : State) : s.setWarn.hout = s.hout := rfl
@[simp] theorem State.setWarn_cin (s : State) : s.setWarn.cin = s.cin := rfl
@[simp] theorem State.setWarn_cout (s : State) : s.setWarn.cout = s.cout := rfl
@[simp] theorem State.setWarn_inst (s : State) : s.setWarn.inst = s.inst := rfl
@[simp] theorem State.setWarn_recTimer (s : State) : s.setWarn.recTimer = s.recTimer := rfl
@[simp] theorem State.setWarn_drvLog (s : State) : s.setWarn.drvLog = s.drvLog := rfl
@[simp] theorem State.setWarn_ansInstall (s : State) : s.setWarn.ansInstall = s.ansInstall := rfl
@[simp] theorem State.setWarn_ansStart (s : State) : s.setWarn.ansStart = s.ansStart := rfl
@[simp] theorem State.setWarn_ansTransmit (s : State) : s.setWarn.ansTransmit = s.ansTransmit := rfl
@[simp] theorem State.setWarn_turns (s : State) : s.setWarn.turns = s.turns := rfl
@[simp] theorem State.setWarn_ret (s : State) : s.setWarn.ret = s.ret := rfl

@[simp] theorem State.countTxDrop_cfg (s : State) : s.countTxDrop.cfg = s.cfg := rfl
@[simp] theorem State.countTxDrop_lb (s : State) : s.countTxDrop.lb = s.lb := rfl
@[simp] theorem State.countTxDrop_rb (s : State) : s.countTxDrop.rb = s.rb := rfl
@[simp] theorem State.countTxDrop_busState (s : State) : s.countTxDrop.busState = s.busState := rfl
@[simp] theorem State.countTxDrop_bt (s : State) : s.countTxDrop.bt = s.bt := rfl
@[simp] theorem State.countTxDrop_btValid (s : State) : s.countTxDrop.btValid = s.btValid := rfl
@[simp] theorem State.countTxDrop_recReq (s : State) : s.countTxDrop.recReq = s.recReq := rfl
@[simp] theorem State.countTxDrop_recResult (s : State) : s.countTxDrop.recResult = s.recResult := rfl
@[simp] theorem State.countTxDrop_ctrlErr (s : State) : s.countTxDrop.ctrlErr = s.ctrlErr := rfl
@[simp] theorem State.countTxDrop_warnFallback (s : State) : s.countTxDrop.warnFallback = s.warnFallback := rfl
@[simp] theorem State.countTxDrop_oq (s : State) : s.countTxDrop.oq = s.oq := rfl
@[simp] theorem State.countTxDrop_rxDropCnt (s : State) : s.countTxDrop.rxDropCnt = s.rxDropCnt := rfl
@[simp] theorem State.countTxDrop_txDropCnt (s : State) : s.countTxDrop.txDropCnt = s.txDropCnt + 1 := rfl
@[simp] theorem State.countTxDrop_hfDefect (s : State) : s.countTxDrop.hfDefect = s.hfDefect := rfl
@[simp] theorem State.countTxDrop_hinText (s : State) : s.countTxDrop.hinText = s.hinText := rfl
@[simp] theorem State.countTxDrop_hinBin (s : State) : s.countTxDrop.hinBin = s.hinBin := rfl
@[simp] theorem State.countTxDrop_hout (s : State) : s.countTxDrop.hout = s.hout := rfl
@[simp] theorem State.countTxDrop_cin (s : State) : s.countTxDrop.cin = s.cin := rfl
@[simp] theorem State.countTxDrop_cout (s : State) : s.countTxDrop.cout = s.cout := rfl
@[simp] theorem State.countTxDrop_inst (s : State) : s.countTxDrop.inst = s.inst := rfl
@[simp] theorem State.countTxDrop_recTimer (s : State) : s.countTxDrop.recTimer = s.recTimer := rfl
@[simp] theorem State.countTxDrop_drvLog (s : State) : s.countTxDrop.drvLog = s.drvLog := rfl
@[simp] theorem State.countTxDrop_ansInstall (s : State) : s.countTxDrop.ansInstall = s.ansInstall := rfl
@[simp] theorem State.countTxDrop_ansStart (s : State) : s.countTxDrop.ansStart = s.ansStart := rfl
@[simp] theorem State.countTxDrop_ansTransmit (s : State) : s.countTxDrop.ansTransmit = s.ansTransmit := rfl
@[simp] theorem State.countTxDrop_turns (s : State) : s.countTxDrop.turns = s.turns := rfl
@[simp] theorem State.countTxDrop_ret (s : State) : s.countTxDrop.ret = s.ret := rfl

@[simp] theorem State.countRxDrop_cfg (s : State) : s.countRxDrop.cfg = s.cfg := rfl
@[simp] theorem State.countRxDrop_lb (s : State) : s.countRxDrop.lb = s.lb := rfl
@[simp] theorem State.countRxDrop_rb (s : State) : s.countRxDrop.rb = s.rb := rfl
@[simp] theorem State.countRxDrop_busState (s : State) : s.countRxDrop.busState = s.busState := rfl
@[simp] theorem State.countRxDrop_bt (s : State) : s.countRxDrop.bt = s.bt := rfl
@[simp] theorem State.countRxDrop_btValid (s : State) : s.countRxDrop.btValid = s.btValid := rfl
@[simp] theorem State.countRxDrop_recReq (s : State) : s.countRxDrop.recReq = s.recReq := rfl
@[simp] theorem State.countRxDrop_recResult (s : State) : s.countRxDrop.recResult = s.recResult := rfl
@[simp] theorem State.countRxDrop_ctrlErr (s : State) : s.countRxDrop.ctrlErr = s.ctrlErr := rfl
@[simp] theorem State.countRxDrop_warnFallback (s : State) : s.countRxDrop.warnFallback = s.warnFallback := rfl
@[simp] theorem State.countRxDrop_oq (s : State) : s.countRxDrop.oq = s.oq := rfl
@[simp] theorem State.countRxDrop_rxDropCnt (s : State) : s.countRxDrop.rxDropCnt = s.rxDropCnt + 1 := rfl
@[simp] theorem State.countRxDrop_txDropCnt (s : State) : s.countRxDrop.txDropCnt = s.txDropCnt := rfl
@[simp] theorem State.countRxDrop_hfDefect (s : State) : s.countRxDrop.hfDefect = s.hfDefect := rfl
@[simp] theorem State.countRxDrop_hinText (s : State) : s.countRxDrop.hinText = s.hinText := rfl
@[simp] theorem State.countRxDrop_hinBin (s : State) : s.countRxDrop.hinBin = s.hinBin := rfl
@[simp] theorem State.countRxDrop_hout (s : State) : s.countRxDrop.hout = s.hout := rfl
@[simp] theorem State.countRxDrop_cin (s : State) : s.countRxDrop.cin = s.cin := rfl
@[simp] theorem State.countRxDrop_cout (s : State) : s.countRxDrop.cout = s.cout := rfl
@[simp] theorem State.countRxDrop_inst (s : State) : s.countRxDrop.inst = s.inst := rfl
@[simp] theorem State.countRxDrop_recTimer (s : State) : s.countRxDrop.recTimer = s.recTimer := rfl
@[simp] theorem State.countRxDrop_drvLog (s : State) : s.countRxDrop.drvLog = s.drvLog := rfl
@[simp] theorem State.countRxDrop_ansInstall (s : State) : s.countRxDrop.ansInstall = s.ansInstall := rfl
@[simp] theorem State.countRxDrop_ansStart (s : State) : s.countRxDrop.ansStart = s.ansStart := rfl
@[simp] theorem State.countRxDrop_ansTransmit (s : State) : s.countRxDrop.ansTransmit = s.ansTransmit := rfl
@[simp] theorem State.countRxDrop_turns (s : State) : s.countRxDrop.turns = s.turns := rfl
@[simp] theorem State.countRxDrop_ret (s : State) : s.countRxDrop.ret = s.ret := rfl

@[simp] theorem State.writeTiming_cfg (s : State) (t : BitTiming) : (s.writeTiming t).cfg = s.cfg := rfl
@[simp] theorem State.writeTiming_lb (s : State) (t : BitTiming) : (s.writeTiming t).lb = s.lb := rfl
@[simp] theorem State.writeTiming_rb (s : State) (t : BitTiming) : (s.writeTiming t).rb = s.rb := rfl
@[simp] theorem State.writeTiming_busState (s : State) (t : BitTiming) : (s.writeTiming t).busState = s.busState := rfl
@[simp] theorem State.writeTiming_bt (s : State) (t : BitTiming) : (s.writeTiming t).bt = t := rfl
@[simp] theorem State.writeTiming_btValid (s : State) (t : BitTiming) : (s.writeTiming t).btValid = true := rfl
@[simp] theorem State.writeTiming_recReq (s : State) (t : BitTiming) : (s.writeTiming t).recReq = s.recReq := rfl
@[simp] theorem State.writeTiming_recResult (s : State) (t : BitTiming) : (s.writeTiming t).recResult = s.recResult := rfl
@[simp] theorem State.writeTiming_ctrlErr (s : State) (t : BitTiming) : (s.writeTiming t).ctrlErr = s.ctrlErr := rfl
@[simp] theorem State.writeTiming_warnFallback (s : State) (t : BitTiming) : (s.writeTiming t).warnFallback = s.warnFallback := rfl
@[simp] theorem State.writeTiming_oq (s : State) (t : BitTiming) : (s.writeTiming t).oq = s.oq := rfl
@[simp] theorem State.writeTiming_rxDropCnt (s : State) (t : BitTiming) : (s.writeTiming t).rxDropCnt = s.rxDropCnt := rfl
@[simp] theorem State.writeTiming_txDropCnt (s : State) (t : BitTiming) : (s.writeTiming t).txDropCnt = s.txDropCnt := rfl
@[simp] theorem State.writeTiming_hfDefect (s : State) (t : BitTiming) : (s.writeTiming t).hfDefect = s.hfDefect := rfl
@[simp] theorem State.writeTiming_hinText (s : State) (t : BitTiming) : (s.writeTiming t).hinText = s.hinText := rfl
@[simp] theorem State.writeTiming_hinBin (s : State) (t : BitTiming) : (s.writeTiming t).hinBin = s.hinBin := rfl
@[simp] theorem State.writeTiming_hout (s : State) (t : BitTiming) : (s.writeTiming t).hout = s.hout := rfl
@[simp] theorem State.writeTiming_cin (s : State) (t : BitTiming) : (s.writeTiming t).cin = s.cin := rfl
@[simp] theorem State.writeTiming_cout (s : State) (t : BitTiming) : (s.writeTiming t).cout = s.cout := rfl
@[simp] theorem State.writeTiming_inst (s : State) (t : BitTiming) : (s.writeTiming t).inst = s.inst := rfl
@[simp] theorem State.writeTiming_recTimer (s : State) (t : BitTiming) : (s.writeTiming t).recTimer = s.recTimer := rfl
@[simp] theorem State.writeTiming_drvLog (s : State) (t : BitTiming) : (s.writeTiming t).drvLog = s.drvLog := rfl
@[simp] theorem State.writeTiming_ansInstall (s : State) (t : BitTiming) : (s.writeTiming t).ansInstall = s.ansInstall := rfl
@[simp] theorem State.writeTiming_ansStart (s : State) (t : BitTiming) : (s.writeTiming t).ansStart = s.ansStart := rfl
@[simp] theorem State.writeTiming_ansTransmit (s : State) (t : BitTiming) : (s.writeTiming t).ansTransmit = s.ansTransmit := rfl
@[simp] theorem State.writeTiming_turns (s : State) (t : BitTiming) : (s.writeTiming t).turns = s.turns := rfl
@[simp] theorem State.writeTiming_ret (s : State) (t : BitTiming) : (s.writeTiming t).ret = s.ret := rfl

@[simp] theorem State.raiseCtrl_cfg (s : State) (e : ControllerErr) : (s.raiseCtrl e).cfg = s.cfg := rfl
@[simp] theorem State.raiseCtrl_lb (s : State) (e : ControllerErr) : (s.raiseCtrl e).lb = s.lb := rfl
@[simp] theorem State.raiseCtrl_rb (s : State) (e : ControllerErr) : (s.raiseCtrl e).rb = s.rb := rfl
@[simp] theorem State.raiseCtrl_busState (s : State) (e : ControllerErr) : (s.raiseCtrl e).busState = s.busState := rfl
@[simp] theorem State.raiseCtrl_bt (s : State) (e : ControllerErr) : (s.raiseCtrl e).bt = s.bt := rfl
@[simp] theorem State.raiseCtrl_btValid (s : State) (e : ControllerErr) : (s.raiseCtrl e).btValid = s.btValid := rfl
@[simp] theorem State.raiseCtrl_recReq (s : State) (e : ControllerErr) : (s.raiseCtrl e).recReq = s.recReq := rfl
@[simp] theorem State.raiseCtrl_recResult (s : State) (e : ControllerErr) : (s.raiseCtrl e).recResult = s.recResult := rfl
@[simp] theorem State.raiseCtrl_ctrlErr (s : State) (e : ControllerErr) : (s.raiseCtrl e).ctrlErr = some e := rfl
@[simp] theorem State.raiseCtrl_warnFallback (s : State) (e : ControllerErr) : (s.raiseCtrl e).warnFallback = s.warnFallback := rfl
@[simp] theorem State.raiseCtrl_oq (s : State) (e : ControllerErr) : (s.raiseCtrl e).oq = s.oq := rfl
@[simp] theorem State.raiseCtrl_rxDropCnt (s : State) (e : ControllerErr) : (s.raiseCtrl e).rxDropCnt = s.rxDropCnt := rfl
@[simp] theorem State.raiseCtrl_txDropCnt (s : State) (e : ControllerErr) : (s.raiseCtrl e).txDropCnt = s.txDropCnt := rfl
@[simp] theorem State.raiseCtrl_hfDefect (s : State) (e : ControllerErr) : (s.raiseCtrl e).hfDefect = s.hfDefect := rfl
@[simp] theorem State.raiseCtrl_hinText (s : State) (e : ControllerErr) : (s.raiseCtrl e).hinText = s.hinText := rfl
@[simp] theorem State.raiseCtrl_hinBin (s : State) (e : ControllerErr) : (s.raiseCtrl e).hinBin = s.hinBin := rfl
@[simp] theorem State.raiseCtrl_hout (s : State) (e : ControllerErr) : (s.raiseCtrl e).hout = s.hout := rfl
@[simp] theorem State.raiseCtrl_cin (s : State) (e : ControllerErr) : (s.raiseCtrl e).cin = s.cin := rfl
@[simp] theorem State.raiseCtrl_cout (s : State) (e : ControllerErr) : (s.raiseCtrl e).cout = s.cout := rfl
@[simp] theorem State.raiseCtrl_inst (s : State) (e : ControllerErr) : (s.raiseCtrl e).inst = s.inst := rfl
@[simp] theorem State.raiseCtrl_recTimer (s : State) (e : ControllerErr) : (s.raiseCtrl e).recTimer = s.recTimer := rfl
@[simp] theorem State.raiseCtrl_drvLog (s : State) (e : ControllerErr) : (s.raiseCtrl e).drvLog = s.drvLog := rfl
@[simp] theorem State.raiseCtrl_ansInstall (s : State) (e : ControllerErr) : (s.raiseCtrl e).ansInstall = s.ansInstall := rfl
@[simp] theorem State.raiseCtrl_ansStart (s : State) (e : ControllerErr) : (s.raiseCtrl e).ansStart = s.ansStart := rfl
@[simp] theorem State.raiseCtrl_ansTransmit (s : State) (e : ControllerErr) : (s.raiseCtrl e).ansTransmit = s.ansTransmit := rfl
@[simp] theorem State.raiseCtrl_turns (s : State) (e : ControllerErr) : (s.raiseCtrl e).turns = s.turns := rfl
@[simp] theorem State.raiseCtrl_ret (s : State) (e : ControllerErr) : (s.raiseCtrl e).ret = s.ret := rfl

@[simp] theorem State.abandonRecovery_cfg (s : State) : s.abandonRecovery.cfg = s.cfg := rfl
@[simp] theorem State.abandonRecovery_lb (s : State) : s.abandonRecovery.lb = s.lb := rfl
@[simp] theorem State.abandonRecovery_rb (s : State) : s.abandonRecovery.rb = s.rb := rfl
@[simp] theorem State.abandonRecovery_busState (s : State) : s.abandonRecovery.busState = s.busState := rfl
@[simp] theorem State.abandonRecovery_bt (s : State) : s.abandonRecovery.bt = s.bt := rfl
@[simp] theorem State.abandonRecovery_btValid (s : State) : s.abandonRecovery.btValid = s.btValid := rfl
@[simp] theorem State.abandonRecovery_recReq (s : State) : s.abandonRecovery.recReq = false := rfl
@[simp] theorem State.abandonRecovery_recResult (s : State) : s.abandonRecovery.recResult = .none := rfl
@[simp] theorem State.abandonRecovery_ctrlErr (s : State) : s.abandonRecovery.ctrlErr = s.ctrlErr := rfl
@[simp] theorem State.abandonRecovery_warnFallback (s : State) : s.abandonRecovery.warnFallback = s.warnFallback := rfl
@[simp] theorem State.abandonRecovery_oq (s : State) : s.abandonRecovery.oq = s.oq := rfl
@[simp] theorem State.abandonRecovery_rxDropCnt (s : State) : s.abandonRecovery.rxDropCnt = s.rxDropCnt := rfl
@[simp] theorem State.abandonRecovery_txDropCnt (s : State) : s.abandonRecovery.txDropCnt = s.txDropCnt := rfl
@[simp] theorem State.abandonRecovery_hfDefect (s : State) : s.abandonRecovery.hfDefect = s.hfDefect := rfl
@[simp] theorem State.abandonRecovery_hinText (s : State) : s.abandonRecovery.hinText = s.hinText := rfl
@[simp] theorem State.abandonRecovery_hinBin (s : State) : s.abandonRecovery.hinBin = s.hinBin := rfl
@[simp] theorem State.abandonRecovery_hout (s : State) : s.abandonRecovery.hout = s.hout := rfl
@[simp] theorem State.abandonRecovery_cin (s : State) : s.abandonRecovery.cin = s.cin := rfl
@[simp] theorem State.abandonRecovery_cout (s : State) : s.abandonRecovery.cout = s.cout := rfl
@[simp] theorem State.abandonRecovery_inst (s : State) : s.abandonRecovery.inst = s.inst := rfl
@[simp] theorem State.abandonRecovery_recTimer (s : State) : s.abandonRecovery.recTimer = false := rfl
@[simp] theorem State.abandonRecovery_drvLog (s : State) : s.abandonRecovery.drvLog = s.drvLog := rfl
@[simp] theorem State.abandonRecovery_ansInstall (s : State) : s.abandonRecovery.ansInstall = s.ansInstall := rfl
@[simp] theorem State.abandonRecovery_ansStart (s : State) : s.abandonRecovery.ansStart = s.ansStart := rfl
@[simp] theorem State.abandonRecovery_ansTransmit (s : State) : s.abandonRecovery.ansTransmit = s.ansTransmit := rfl
@[simp] theorem State.abandonRecovery_turns (s : State) : s.abandonRecovery.turns = s.turns := rfl
@[simp] theorem State.abandonRecovery_ret (s : State) : s.abandonRecovery.ret = s.ret := rfl

@[simp] theorem State.teardown_cfg (s : State) : s.teardown.cfg = s.cfg := rfl
@[simp] theorem State.teardown_lb (s : State) : s.teardown.lb = s.lb := rfl
@[simp] theorem State.teardown_rb (s : State) : s.teardown.rb = s.rb := rfl
@[simp] theorem State.teardown_busState (s : State) : s.teardown.busState = s.busState := rfl
@[simp] theorem State.teardown_bt (s : State) : s.teardown.bt = s.bt := rfl
@[simp] theorem State.teardown_btValid (s : State) : s.teardown.btValid = s.btValid := rfl
@[simp] theorem State.teardown_recReq (s : State) : s.teardown.recReq = s.recReq := rfl
@[simp] theorem State.teardown_recResult (s : State) : s.teardown.recResult = s.recResult := rfl
@[simp] theorem State.teardown_ctrlErr (s : State) : s.teardown.ctrlErr = s.ctrlErr := rfl
@[simp] theorem State.teardown_warnFallback (s : State) : s.teardown.warnFallback = s.warnFallback := rfl
@[simp] theorem State.teardown_oq (s : State) : s.teardown.oq = s.oq := rfl
@[simp] theorem State.teardown_rxDropCnt (s : State) : s.teardown.rxDropCnt = s.rxDropCnt := rfl
@[simp] theorem State.teardown_txDropCnt (s : State) : s.teardown.txDropCnt = s.txDropCnt := rfl
@[simp] theorem State.teardown_hfDefect (s : State) : s.teardown.hfDefect = s.hfDefect := rfl
@[simp] theorem State.teardown_hinText (s : State) : s.teardown.hinText = s.hinText := rfl
@[simp] theorem State.teardown_hinBin (s : State) : s.teardown.hinBin = s.hinBin := rfl
@[simp] theorem State.teardown_hout (s : State) : s.teardown.hout = s.hout := rfl
@[simp] theorem State.teardown_cin (s : State) : s.teardown.cin = s.cin := rfl
@[simp] theorem State.teardown_cout (s : State) : s.teardown.cout = s.cout := rfl
@[simp] theorem State.teardown_inst (s : State) : s.teardown.inst = none := rfl
@[simp] theorem State.teardown_recTimer (s : State) : s.teardown.recTimer = s.recTimer := rfl
@[simp] theorem State.teardown_drvLog (s : State) : s.teardown.drvLog = s.drvLog ++ [.stop] ++ [.uninstall] := rfl
@[simp] theorem State.teardown_ansInstall (s : State) : s.teardown.ansInstall = s.ansInstall := rfl
@[simp] theorem State.teardown_ansStart (s : State) : s.teardown.ansStart = s.ansStart := rfl
@[simp] theorem State.teardown_ansTransmit (s : State) : s.teardown.ansTransmit = s.ansTransmit := rfl
@[simp] theorem State.teardown_turns (s : State) : s.teardown.turns = s.turns := rfl
@[simp] theorem State.teardown_ret (s : State) : s.teardown.ret = s.ret := rfl

@[simp] theorem State.beginTurn_cfg (s : State) (r : List Turn) : (s.beginTurn r).cfg = s.cfg := rfl
@[simp] theorem State.beginTurn_lb (s : State) (r : List Turn) : (s.beginTurn r).lb = s.lb := rfl
@[simp] theorem State.beginTurn_rb (s : State) (r : List Turn) : (s.beginTurn r).rb = s.rb := rfl
@[simp] theorem State.beginTurn_busState (s : State) (r : List Turn) : (s.beginTurn r).busState = s.busState := rfl
@[simp] theorem State.beginTurn_bt (s : State) (r : List Turn) : (s.beginTurn r).bt = s.bt := rfl
@[simp] theorem State.beginTurn_btValid (s : State) (r : List Turn) : (s.beginTurn r).btValid = s.btValid := rfl
@[simp] theorem State.beginTurn_recReq (s : State) (r : List Turn) : (s.beginTurn r).recReq = s.recReq := rfl
@[simp] theorem State.beginTurn_recResult (s : State) (r : List Turn) : (s.beginTurn r).recResult = s.recResult := rfl
@[simp] theorem State.beginTurn_ctrlErr (s : State) (r : List Turn) : (s.beginTurn r).ctrlErr = s.ctrlErr := rfl
@[simp] theorem State.beginTurn_warnFallback (s : State) (r : List Turn) : (s.beginTurn r).warnFallback = s.warnFallback := rfl
@[simp] theorem State.beginTurn_oq (s : State) (r : List Turn) : (s.beginTurn r).oq = s.oq := rfl
@[simp] theorem State.beginTurn_rxDropCnt (s : State) (r : List Turn) : (s.beginTurn r).rxDropCnt = s.rxDropCnt := rfl
@[simp] theorem State.beginTurn_txDropCnt (s : State) (r : List Turn) : (s.beginTurn r).txDropCnt = s.txDropCnt := rfl
@[simp] theorem State.beginTurn_hfDefect (s : State) (r : List Turn) : (s.beginTurn r).hfDefect = s.hfDefect := rfl
@[simp] theorem State.beginTurn_hinText (s : State) (r : List Turn) : (s.beginTurn r).hinText = s.hinText := rfl
@[simp] theorem State.beginTurn_hinBin (s : State) (r : List Turn) : (s.beginTurn r).hinBin = s.hinBin := rfl
@[simp] theorem State.beginTurn_hout (s : State) (r : List Turn) : (s.beginTurn r).hout = s.hout := rfl
@[simp] theorem State.beginTurn_cin (s : State) (r : List Turn) : (s.beginTurn r).cin = s.cin := rfl
@[simp] theorem State.beginTurn_cout (s : State) (r : List Turn) : (s.beginTurn r).cout = s.cout := rfl
@[simp] theorem State.beginTurn_inst (s : State) (r : List Turn) : (s.beginTurn r).inst = s.inst := rfl
@[simp] theorem State.beginTurn_recTimer (s : State) (r : List Turn) : (s.beginTurn r).recTimer = s.recTimer := rfl
@[simp] theorem State.beginTurn_drvLog (s : State) (r : List Turn) : (s.beginTurn r).drvLog = s.drvLog := rfl
@[simp] theorem State.beginTurn_ansInstall (s : State) (r : List Turn) : (s.beginTurn r).ansInstall = s.ansInstall := rfl
@[simp] theorem State.beginTurn_ansStart (s : State) (r : List Turn) : (s.beginTurn r).ansStart = s.ansStart := rfl
@[simp] theorem State.beginTurn_ansTransmit (s : State) (r : List Turn) : (s.beginTurn r).ansTransmit = s.ansTransmit := rfl
@[simp] theorem State.beginTurn_turns (s : State) (r : List Turn) : (s.beginTurn r).turns = r := rfl
@[simp] theorem State.beginTurn_ret (s : State) (r : List Turn) : (s.beginTurn r).ret = .none := rfl

end Sys2Proof.Machine
end

