-- ==== Sys2Proof/Laws/Ops.lean ====
section
/-! SUPPORT. One lemma per shared operation, saying once everything it can do; later proofs cite these instead of
unfolding the operation. -/

namespace Sys2Proof.Machine

/-! ### Driver and controller operations -/

theorem closeInstance_eq (s : State) :
    closeInstance s = { s with
      busState := .closed
      inst := if s.busState = .closed then s.inst else none
      drvLog := s.drvLog ++ teardownCalls s.busState } := by
  unfold closeInstance teardownCalls
  split
  · rename_i h; cases s; simp_all
  · simp [State.teardown, State.call]

/-- The gate outside `Open`: no driver call. -/
theorem txGate_notOpen (f : CanFrame) {s : State} (h : s.busState ≠ .opened) :
    txGate f s = (.err .notOpen, s) := by
  simp [txGate, h]

/-- The gate in `Open`: one call, and the driver's answer. -/
theorem txGate_opened (f : CanFrame) {s : State} (h : s.busState = .opened) :
    txGate f s = (txOutcome s.transmitAnswer, { s with
      drvLog := s.drvLog ++ [.transmit f s.cfg.txTimeoutMs], ansTransmit := s.ansTransmit.rest }) := by
  simp [txGate, h, drvTransmit, State.call]

theorem txOutcome_eq_ok {r : TxResult} : txOutcome r = .ok ↔ r = .ok := by
  cases r <;> simp [txOutcome]

/-- The gate changes nothing but the call log and the answers. -/
theorem txGate_frame (f : CanFrame) (s : State) :
    (txGate f s).2 = { s with drvLog := (txGate f s).2.drvLog, ansTransmit := (txGate f s).2.ansTransmit } := by
  by_cases h : s.busState = .opened
  · simp [txGate_opened f h]
  · simp [txGate_notOpen f h]

/-- What configuring leaves of every field, by the two answers. -/
theorem configure_eq (t : BitTiming) (s : State) :
    configure t s =
      let s0 := { s with
        recReq := false, recResult := .none, recTimer := false, busState := .closed, ansInstall := s.ansInstall.rest }
      let calls := s.drvLog ++ teardownCalls s.busState ++ [.install t]
      match s.installAnswer, s.startAnswer with
      | .fail, _ => (.err .installFailed, { s0 with
          inst := if s.busState = .closed then s.inst else none
          drvLog := calls, ctrlErr := some .installFailed })
      | .ok, .fail => (.err .startFailed, { s0 with
          inst := none, drvLog := calls ++ [.start, .uninstall], ansStart := s.ansStart.rest
          ctrlErr := some .startFailed })
      | .ok, .ok => (.ok, { s0 with
          busState := .opened, inst := some { timing := t, started := true }, drvLog := calls ++ [.start]
          ansStart := s.ansStart.rest, ctrlErr := none }) := by
  have hi : (closeInstance s).abandonRecovery.installAnswer = s.installAnswer := by rw [closeInstance_eq]; rfl
  have hs : ∀ u : State, u.ansStart = s.ansStart → u.startAnswer = s.startAnswer := by
    intro u h; simp [State.startAnswer, h]
  unfold configure drvInstall drvStart
  simp only [hi]
  rw [hs _ (by rw [closeInstance_eq]; rfl)]
  rw [closeInstance_eq]
  cases s.installAnswer <;> cases s.startAnswer <;>
    simp [State.abandonRecovery, State.call, State.raiseCtrl, drvUninstall]

/-- Configuring touches only the bus-state machine's elements. -/
theorem configure_frame (t : BitTiming) (s : State) :
    (configure t s).2 = { s with
      busState := (configure t s).2.busState, recReq := false, recResult := .none, recTimer := false
      ctrlErr := (configure t s).2.ctrlErr, inst := (configure t s).2.inst, drvLog := (configure t s).2.drvLog
      ansInstall := (configure t s).2.ansInstall, ansStart := (configure t s).2.ansStart } := by
  rw [configure_eq]
  cases s.installAnswer <;> cases s.startAnswer <;> rfl

theorem cmdClose_eq (s : State) :
    cmdClose s = { s with
      busState := .closed, recReq := false, recResult := .none, recTimer := false
      inst := if s.busState = .closed then s.inst else none
      drvLog := s.drvLog ++ teardownCalls s.busState } := by
  simp [cmdClose, closeInstance_eq, State.abandonRecovery]

/-- Opening touches only the bus-state machine's elements. -/
theorem cmdOpen_frame (s : State) :
    (cmdOpen s).2 = { s with
      busState := (cmdOpen s).2.busState, recReq := (cmdOpen s).2.recReq, recResult := (cmdOpen s).2.recResult
      recTimer := (cmdOpen s).2.recTimer, ctrlErr := (cmdOpen s).2.ctrlErr, inst := (cmdOpen s).2.inst
      drvLog := (cmdOpen s).2.drvLog, ansInstall := (cmdOpen s).2.ansInstall
      ansStart := (cmdOpen s).2.ansStart } := by
  unfold cmdOpen
  split
  · rw [configure_eq]; cases s.installAnswer <;> cases s.startAnswer <;> rfl
  · rfl

/-! ### Executing a unit -/

/-- The elements no line and no record touches are those of `s`. -/
structure UnitFrame (s t : State) : Prop where
  cfg : t.cfg = s.cfg
  lb : t.lb = s.lb
  rb : t.rb = s.rb
  oq : t.oq = s.oq
  rxDropCnt : t.rxDropCnt = s.rxDropCnt
  hinText : t.hinText = s.hinText
  hinBin : t.hinBin = s.hinBin
  cin : t.cin = s.cin
  cout : t.cout = s.cout
  turns : t.turns = s.turns

/-- A decoded line emits one of the four response units and touches none of the elements of `UnitFrame`. -/
theorem runDecoded_spec (r : ParseResult) (s : State) :
    UnitFrame s (runDecoded r s) ∧ (runDecoded r s).hfDefect = s.hfDefect ∧
      ∃ u, (runDecoded r s).hout = s.hout ++ [u] ∧
        (u = ackUnit ∨ u = nakUnit ∨ u = versionUnit s.cfg.verHw ∨ u = versionUnit s.cfg.verSw) := by
  have tok : ∀ (o : CtlOutcome) (u : State), UnitFrame s u → u.hfDefect = s.hfDefect → u.hout = s.hout →
      UnitFrame s (u.emit (ctlToken o)) ∧ (u.emit (ctlToken o)).hfDefect = s.hfDefect ∧
        ∃ v, (u.emit (ctlToken o)).hout = s.hout ++ [v] ∧
          (v = ackUnit ∨ v = nakUnit ∨ v = versionUnit s.cfg.verHw ∨ v = versionUnit s.cfg.verSw) := by
    intro o u hu hd hh
    refine ⟨⟨hu.cfg, hu.lb, hu.rb, hu.oq, hu.rxDropCnt, hu.hinText, hu.hinBin, hu.cin, hu.cout, hu.turns⟩, hd,
      ctlToken o, by rw [State.emit_hout, hh], ?_⟩
    cases o
    · exact .inl rfl
    · exact .inr (.inl rfl)
  have bell := tok (.err .fatal) s ⟨rfl, rfl, rfl, rfl, rfl, rfl, rfl, rfl, rfl, rfl⟩ rfl rfl
  have timing : ∀ (t : BitTiming) (u : State), UnitFrame s u → u.hfDefect = s.hfDefect → u.hout = s.hout →
      UnitFrame s (applyTiming t u) ∧ (applyTiming t u).hfDefect = s.hfDefect ∧
        ∃ v, (applyTiming t u).hout = s.hout ++ [v] ∧
          (v = ackUnit ∨ v = nakUnit ∨ v = versionUnit s.cfg.verHw ∨ v = versionUnit s.cfg.verSw) := by
    intro t u hu hd hh
    unfold applyTiming
    dsimp only
    split
    · exact tok .ok _ ⟨hu.cfg, hu.lb, hu.rb, hu.oq, hu.rxDropCnt, hu.hinText, hu.hinBin, hu.cin, hu.cout, hu.turns⟩ hd hh
    · refine tok _ _ ?_ ?_ ?_ <;> rw [configure_frame]
      · exact ⟨hu.cfg, hu.lb, hu.rb, hu.oq, hu.rxDropCnt, hu.hinText, hu.hinBin, hu.cin, hu.cout, hu.turns⟩
      · exact hd
      · exact hh
  unfold runDecoded
  split
  · exact bell
  · rename_i f
    unfold runFrame
    dsimp only
    split <;> rw [txGate_frame]
    · exact tok .ok _ ⟨rfl, rfl, rfl, rfl, rfl, rfl, rfl, rfl, rfl, rfl⟩ rfl rfl
    · exact tok (.err .fatal) _ ⟨rfl, rfl, rfl, rfl, rfl, rfl, rfl, rfl, rfl, rfl⟩ rfl rfl
  · refine tok _ _ ?_ ?_ ?_ <;> rw [cmdOpen_frame]
    exact ⟨rfl, rfl, rfl, rfl, rfl, rfl, rfl, rfl, rfl, rfl⟩
  · refine tok .ok _ ?_ ?_ ?_ <;> rw [cmdClose_eq]
    exact ⟨rfl, rfl, rfl, rfl, rfl, rfl, rfl, rfl, rfl, rfl⟩
  · unfold runSetBitrate
    split
    · exact bell
    · exact timing _ s ⟨rfl, rfl, rfl, rfl, rfl, rfl, rfl, rfl, rfl, rfl⟩ rfl rfl
    · exact timing _ s.setWarn ⟨rfl, rfl, rfl, rfl, rfl, rfl, rfl, rfl, rfl, rfl⟩ rfl rfl
  · exact ⟨⟨rfl, rfl, rfl, rfl, rfl, rfl, rfl, rfl, rfl, rfl⟩, rfl, _, rfl, .inr (.inr (.inl rfl))⟩
  · exact ⟨⟨rfl, rfl, rfl, rfl, rfl, rfl, rfl, rfl, rfl, rfl⟩, rfl, _, rfl, .inr (.inr (.inr rfl))⟩

/-- What a record leaves of every field. -/
theorem runRecord_eq (bytes : List Byte) (s : State) :
    runRecord bytes s = { s with
      hfDefect := s.hfDefect || !hostframeWellformed bytes
      drvLog := if s.busState = .opened then
        s.drvLog ++ [.transmit (decodeHostframe s.cfg.hfLayout bytes) s.cfg.txTimeoutMs] else s.drvLog
      ansTransmit := if s.busState = .opened then s.ansTransmit.rest else s.ansTransmit
      txDropCnt := if s.busState = .opened ∧ s.transmitAnswer = .ok then s.txDropCnt else s.txDropCnt + 1 } := by
  have key : ∀ u : State, u.busState = s.busState → u.transmitAnswer = s.transmitAnswer →
      u = { s with hfDefect := u.hfDefect } →
      (let r := txGate (decodeHostframe s.cfg.hfLayout bytes) u
       if r.1 = .ok then r.2 else r.2.countTxDrop) = { s with
        hfDefect := u.hfDefect
        drvLog := if s.busState = .opened then
          s.drvLog ++ [.transmit (decodeHostframe s.cfg.hfLayout bytes) s.cfg.txTimeoutMs] else s.drvLog
        ansTransmit := if s.busState = .opened then s.ansTransmit.rest else s.ansTransmit
        txDropCnt := if s.busState = .opened ∧ s.transmitAnswer = .ok then s.txDropCnt else s.txDropCnt + 1 } := by
    intro u hb ha hu
    by_cases h : s.busState = .opened
    · rw [txGate_opened _ (hb.trans h), ha, hu]
      by_cases ho : s.transmitAnswer = .ok
      · simp [h, ho, txOutcome]
      · simp [h, ho, txOutcome_eq_ok, State.countTxDrop]
    · rw [txGate_notOpen _ (by rw [hb]; exact h), hu]
      simp [h, State.countTxDrop]
  unfold runRecord
  cases hw : hostframeWellformed bytes
  · have := key s.setDefect rfl rfl rfl
    simpa using this
  · have := key s rfl rfl rfl
    simpa using this

/-- A record touches only the call log, the answers, the transmit drop counter and `HF_DEFECT`. -/
theorem runRecord_frame (bytes : List Byte) (s : State) :
    runRecord bytes s = { s with
      drvLog := (runRecord bytes s).drvLog, ansTransmit := (runRecord bytes s).ansTransmit
      txDropCnt := (runRecord bytes s).txDropCnt, hfDefect := (runRecord bytes s).hfDefect } := by
  rw [runRecord_eq]

/-! ### The framer loop -/

/-- Once the buffer is shorter than a record the loop ends. -/
theorem extractRecords_short (fuel : Nat) {s : State} (h : s.rb.length < hfSize s.cfg.hfLayout) :
    extractRecords fuel s = s := by
  cases fuel <;> simp [extractRecords, h]

theorem hfSize_pos (lay : HfLayout) : 0 < hfSize lay := by cases lay <;> decide

/-- The loop does not depend on how much fuel it has beyond the buffer's length. -/
theorem extractRecords_fuel (n : Nat) (s : State) (h : s.rb.length ≤ n) :
    extractRecords n s = extractRecords s.rb.length s := by
  induction n using Nat.strongRecOn generalizing s with
  | ind n ih =>
    by_cases hs : s.rb.length < hfSize s.cfg.hfLayout
    · rw [extractRecords_short _ hs, extractRecords_short _ hs]
    · have hp := hfSize_pos s.cfg.hfLayout
      obtain ⟨m, rfl⟩ : ∃ m, n = m + 1 := ⟨n - 1, by omega⟩
      obtain ⟨k, hk⟩ : ∃ k, s.rb.length = k + 1 := ⟨s.rb.length - 1, by omega⟩
      rw [hk]
      simp only [extractRecords, if_neg hs]
      have hl : (runRecord (s.rb.take (hfSize s.cfg.hfLayout))
          { s with rb := s.rb.drop (hfSize s.cfg.hfLayout) }).rb.length = s.rb.length - hfSize s.cfg.hfLayout := by
        rw [runRecord_frame]; simp
      by_cases hmk : m = k
      · rw [hmk]
      · rw [ih m (by omega) _ (by omega), ih k (by omega) _ (by omega)]

end Sys2Proof.Machine
end

