-- ==== Sys2Proof/Laws/PerInstr.lean ====
section
/-! SUPPORT. One lemma per constructor of `Instr`: the decoder reads back what the encoder wrote. The two version codes
have to differ, since equal codes are equal bytes (30_encoding.md R95). -/

namespace Sys2Proof.Laws.EncodeDecode

/-- Where the instruction has an encoding, its port's decoder gives it back, with every operand. -/
def Statement (i : Instr) : Prop :=
  ∀ (c : Config) (port : Port) (bytes : List Byte), c.verHw ≠ c.verSw → i.wellFormed = true →
    encode c i = some (port, bytes) → decode c port bytes = .ok i

theorem slDataStd (p : List Byte) : Statement (.slDataStd p) := by rintro c _ _ _ _ ⟨⟩; rfl
theorem slDataExt (p : List Byte) : Statement (.slDataExt p) := by rintro c _ _ _ _ ⟨⟩; rfl
theorem slRemoteStd (p : List Byte) : Statement (.slRemoteStd p) := by rintro c _ _ _ _ ⟨⟩; rfl
theorem slRemoteExt (p : List Byte) : Statement (.slRemoteExt p) := by rintro c _ _ _ _ ⟨⟩; rfl
theorem slOpen (p : List Byte) : Statement (.slOpen p) := by rintro c _ _ _ _ ⟨⟩; rfl
theorem slClose (p : List Byte) : Statement (.slClose p) := by rintro c _ _ _ _ ⟨⟩; rfl
theorem slSetBitrate (p : List Byte) : Statement (.slSetBitrate p) := by rintro c _ _ _ _ ⟨⟩; rfl
theorem slVersionHw (p : List Byte) : Statement (.slVersionHw p) := by rintro c _ _ _ _ ⟨⟩; rfl
theorem slVersionSw (p : List Byte) : Statement (.slVersionSw p) := by rintro c _ _ _ _ ⟨⟩; rfl

theorem slUnknown (b : Byte) (p : List Byte) : Statement (.slUnknown b p) := by
  rintro c _ _ _ h ⟨⟩
  simp only [Instr.wellFormed, Bool.and_eq_true, Bool.not_eq_true'] at h
  have := h.1.1
  simp [isTextOpcode] at this
  simp [decode, decodeLine, selectOpcode, this]

theorem decHostframe (r : List Byte) : Statement (.decHostframe r) := by
  intro c port bytes _ _ h
  simp only [encode] at h
  split at h
  · rename_i hr
    cases h
    simp [decode, decodeRecord, hr]
  · cases h

/-- The bytes of a version response determine the code. -/
theorem versionUnit_inj {a b : Vector Byte 4} : versionUnit a = versionUnit b ↔ a = b := by
  simp [versionUnit, Vector.toList_inj]

theorem ack : Statement .ack := by rintro c _ _ _ _ ⟨⟩; rfl
theorem nak : Statement .nak := by rintro c _ _ _ _ ⟨⟩; rfl
theorem verHw : Statement .verHw := by rintro c _ _ _ _ ⟨⟩; simp [decode, decodeVersion]
theorem verSw : Statement .verSw := by
  rintro c _ _ h _ ⟨⟩
  simp [decode, decodeVersion, versionUnit_inj, Ne.symm h]

theorem encHostframe (f : CanFrame) (t : U32) : Statement (.encHostframe f t) := by rintro c _ _ _ _ ⟨⟩
theorem encSlcan (f : CanFrame) : Statement (.encSlcan f) := by rintro c _ _ _ _ ⟨⟩
theorem hostFormat (v : Nat) : Statement (.hostFormat v) := by rintro c _ _ _ _ ⟨⟩
theorem setBittiming (t : BitTiming) : Statement (.setBittiming t) := by rintro c _ _ _ _ ⟨⟩
theorem modeStart : Statement .modeStart := by rintro c _ _ _ _ ⟨⟩
theorem modeStop : Statement .modeStop := by rintro c _ _ _ _ ⟨⟩
theorem btConst : Statement .btConst := by rintro c _ _ _ _ ⟨⟩
theorem deviceConfig : Statement .deviceConfig := by rintro c _ _ _ _ ⟨⟩
theorem ctlOther : Statement .ctlOther := by rintro c _ _ _ _ ⟨⟩
theorem execLine (l : List Byte) : Statement (.execLine l) := by rintro c _ _ _ _ ⟨⟩
theorem execRecord (r : List Byte) : Statement (.execRecord r) := by rintro c _ _ _ _ ⟨⟩
theorem frmByte (b : Byte) : Statement (.frmByte b) := by rintro c _ _ _ _ ⟨⟩
theorem frmPacket (p : List Byte) : Statement (.frmPacket p) := by rintro c _ _ _ _ ⟨⟩
theorem configure (t : BitTiming) : Statement (.configure t) := by rintro c _ _ _ _ ⟨⟩
theorem cmdClose : Statement .cmdClose := by rintro c _ _ _ _ ⟨⟩
theorem cmdOpen : Statement .cmdOpen := by rintro c _ _ _ _ ⟨⟩
theorem txGate (f : CanFrame) : Statement (.txGate f) := by rintro c _ _ _ _ ⟨⟩
theorem evBusoff : Statement .evBusoff := by rintro c _ _ _ _ ⟨⟩
theorem recStart : Statement .recStart := by rintro c _ _ _ _ ⟨⟩
theorem evRecDone : Statement .evRecDone := by rintro c _ _ _ _ ⟨⟩
theorem evRecTimeout : Statement .evRecTimeout := by rintro c _ _ _ _ ⟨⟩
theorem evFatal : Statement .evFatal := by rintro c _ _ _ _ ⟨⟩
theorem cmdCheck : Statement .cmdCheck := by rintro c _ _ _ _ ⟨⟩
theorem evBusRx (f : CanFrame) : Statement (.evBusRx f) := by rintro c _ _ _ _ ⟨⟩
theorem htxPop : Statement .htxPop := by rintro c _ _ _ _ ⟨⟩

end Sys2Proof.Laws.EncodeDecode
end

