-- ==== Sys2Proof/Laws/Runs.lean ====
section
/-! SUPPORT. What one step and the environment after it can do, for proofs about runs. -/

namespace Sys2Proof.Machine

/-- Fetching a turn's instruction takes from the inputs and touches nothing else. -/
theorem fetchTurn_frame {t : Turn} {s s1 : State} {i : Instr} (h : fetchTurn t s = some (i, s1)) :
    s1 = { s with hinText := s1.hinText, hinBin := s1.hinBin, cin := s1.cin } := by
  unfold fetchTurn at h
  (repeat' split at h) <;> cases h <;> rfl

/-- A step idles, lets a turn pass, or is one instruction from a state that differs only in turns, result and inputs;
the instruction is the operation the turn names, or one that `HRX` or `CTL` runs. -/
theorem step_cases {s u : State} (h : step s = .next u) :
    (s.turns = [] ∧ u = s) ∨
    ∃ (t : Turn) (rest : List Turn) (s1 : State), s.turns = t :: rest ∧
      s1 = { s with
        turns := rest, ret := .none, hinText := s1.hinText, hinBin := s1.hinBin, cin := s1.cin } ∧
      (u = s1 ∨ ∃ i : Instr, fetchTurn t (s.beginTurn rest) = some (i, s1) ∧ exec i s1 = .next u) := by
  unfold step at h
  split at h
  · cases h; exact .inl ⟨‹_›, rfl⟩
  · rename_i t rest ht
    refine .inr ?_
    split at h
    · cases h; exact ⟨t, rest, s.beginTurn rest, ht, rfl, .inl rfl⟩
    · rename_i i s1 hf
      split at h
      · refine ⟨t, rest, s1, ht, fetchTurn_frame hf, ?_⟩
        cases he : exec i s1 with
        | next v => rw [he] at h; cases h; exact .inr ⟨i, hf, he⟩
        | fault f => rw [he] at h; cases h; exact .inl rfl
        | refused r => rw [he] at h; cases h
      · cases h

/-- A turn that names a well-formed, completing operation runs it. -/
theorem step_op {s t : State} {i : Instr} {rest : List Turn} (ht : s.turns = .op i :: rest)
    (hw : i.wellFormed = true) (he : exec i (s.beginTurn rest) = .next t) : step s = .next t := by
  simp [step, ht, fetchTurn, hw, he, passUnlessEnabled]

/-- The environment touches none of the elements the block writes. -/
theorem Supplied.frame {u s : State} (h : Supplied u s) :
    s = { u with
      turns := s.turns, hinText := s.hinText, hinBin := s.hinBin, cin := s.cin
      ansInstall := s.ansInstall, ansStart := s.ansStart, ansTransmit := s.ansTransmit } := by
  obtain ⟨_, _, _, _, _, _, _, _, rfl⟩ := h
  rfl

end Sys2Proof.Machine
end

