-- ==== Sys2Proof/Tests/Slice0.lean ====
section
/-! SUPPORT. Tests. Expected values are those of spec/95_test_vectors.md (its labels are named: T1, F1, S1, ...) or worked
out from the rule cited; the version codes "HWHW" and "SWSW" are that file's. The last part holds, for every obligation
with hypotheses, a concrete state and operands that meet them (for each clause). -/

namespace Sys2Proof.Tests

open Sys2Proof Sys2Proof.Machine

/-! ### Small states -/

/-- `TT[n]` of 95_test_vectors.md: a timing that is different for each code. -/
def tt (n : Nat) : BitTiming := { brp := BitVec.ofNat 32 n, tseg1 := 13, tseg2 := 2, sjw := 1 }

/-- A run's parameters, with a timing for every code. -/
def cfgOf (p : Proto) : Config where
  proto := p
  hfLayout := .packed17
  fallback := .reject
  timingLow := #v[some (tt 0), some (tt 1), some (tt 2), some (tt 3), some (tt 4), some (tt 5), some (tt 6), some (tt 7)]
  timing8 := tt 8
  verHw := #v[0x48, 0x57, 0x48, 0x57]
  verSw := #v[0x53, 0x57, 0x53, 0x57]
  btConstBlob := [0xB7]
  deviceConfigBlob := [0xDC, 0x01]
  pktMax := 64
  txTimeoutMs := 50
  rxPollTimeout := 5
  ctlCodes := #v[0, 1, 2, 3, 4, 5]

/-- No timing for code 7 (X12, X13). -/
def cfgNo7 (f : Fallback) : Config :=
  { cfgOf .text with
    fallback := f
    timingLow := #v[some (tt 0), some (tt 1), some (tt 2), some (tt 3), some (tt 4), some (tt 5), some (tt 6), none] }

/-- No timing below code 8. -/
def cfgOnly8 : Config :=
  { cfgOf .text with
    fallback := .legacyDowngrade
    timingLow := #v[none, none, none, none, none, none, none, none] }

/-- After reset, with these parameters. -/
def closed (p : Proto) : State := { State.reset with cfg := cfgOf p }

/-- In bus state `b` with a started instance at timing 6. -/
def live (p : Proto) (b : BusState) : State :=
  { closed p with
    busState := b, bt := tt 6, btValid := true, recReq := b == .busOff, recTimer := b == .recovering
    inst := some { timing := tt 6, started := true } }

/-- In `Open`. -/
def openState (p : Proto) : State := live p .opened

/-- The environment answers the next `drv.transmit` so. -/
def State.answersTx (s : State) (r : TxResult) : State := { s with ansTransmit := { given := [r], taken := 0 } }

/-- The environment answers the next `drv.install` and `drv.start` so. -/
def State.answersOpen (s : State) (i r : DrvResult) : State :=
  { s with ansInstall := { given := [i], taken := 0 }, ansStart := { given := [r], taken := 0 } }

/-- The next state, if the outcome is one. -/
def nextOf (r : Result) : Option State :=
  match r with
  | .next t => some t
  | .fault _ => none
  | .refused _ => none

/-- The fault, if the outcome is one. -/
def faultOf (r : Result) : Option Fault :=
  match r with
  | .next _ => none
  | .fault f => some f
  | .refused _ => none

/-- The refusal, if it is one. -/
def refusalOf (r : Result) : Option Refusal :=
  match r with
  | .next _ => none
  | .fault _ => none
  | .refused x => some x

/-- A data frame from its id, kind and bytes. -/
def dataFrame (id : U32) (ext : Bool) (dlc : Fin 9) (data : Vector Byte 8) : CanFrame :=
  { id := id, extended := ext, remote := false, dlc := dlc, data := data }

/-- `f` of 95: `{0x001, std, data, 0}`, the line `"t0010"`. -/
def f001 : CanFrame := dataFrame 1 false 0 #v[0, 0, 0, 0, 0, 0, 0, 0]

/-- `{0x123, std, data, 2, [AA BB]}`, record B1. -/
def f123 : CanFrame := dataFrame 0x123 false 2 #v[0xAA, 0xBB, 0, 0, 0, 0, 0, 0]

/-- `{0x123, std, remote, 4}`. -/
def r123 : CanFrame :=
  { id := 0x123, extended := false, remote := true, dlc := 4, data := #v[0, 0, 0, 0, 0, 0, 0, 0] }

/-- The longest extended data frame (T21). -/
def fMax : CanFrame := dataFrame 0x1FFFFFFF true 8 #v[0xFF, 0xFF, 0xFF, 0xFF, 0xFF, 0xFF, 0xFF, 0xFF]

/-- `"t0010"`. -/
def t0010 : List Byte := [0x74, 0x30, 0x30, 0x31, 0x30]

/-- Record B1. -/
def b1 : List Byte := [0, 0, 0, 0, 0x23, 0x01, 0, 0, 0x02, 0xAA, 0xBB, 0, 0, 0, 0, 0, 0]

/-- Record B6: bit 30 set. -/
def b6 : List Byte := [0, 0, 0, 0, 0x23, 0x01, 0, 0x40, 0x01, 0x55, 0, 0, 0, 0, 0, 0, 0]

/-! ### WellFormed: a term each check refuses, and terms at its boundary -/

set_option maxRecDepth 8192 in
/-- An overlong payload, and one with a terminator in it. -/
theorem test_wf_payload :
    (Instr.slDataStd (List.replicate 128 0x30)).wellFormed = false ∧
    (Instr.slDataStd (List.replicate 127 0x30)).wellFormed = true ∧
    (Instr.slOpen [0x0D]).wellFormed = false ∧ (Instr.slOpen [0x0A]).wellFormed = false := by decide

/-- An unknown opcode is none of the nine, and no terminator. -/
theorem test_wf_unknown :
    (Instr.slUnknown 0x74 []).wellFormed = false ∧ (Instr.slUnknown 0x0D []).wellFormed = false ∧
    (Instr.slUnknown 0x78 [0x0A]).wellFormed = false ∧ (Instr.slUnknown 0x78 []).wellFormed = true := by decide

set_option maxRecDepth 8192 in
/-- A line has 1 to 128 bytes, none a terminator. -/
theorem test_wf_line :
    (Instr.execLine []).wellFormed = false ∧ (Instr.execLine (List.replicate 129 0x30)).wellFormed = false ∧
    (Instr.execLine (List.replicate 128 0x30)).wellFormed = true ∧
    (Instr.execLine [0x56, 0x0D]).wellFormed = false := by decide

/-- A record has 17 or 20 bytes; a packet at least one. -/
theorem test_wf_record_packet :
    (Instr.decHostframe (List.replicate 16 0)).wellFormed = false ∧
    (Instr.execRecord (List.replicate 18 0)).wellFormed = false ∧
    (Instr.execRecord (List.replicate 20 0)).wellFormed = true ∧ (Instr.execRecord b1).wellFormed = true ∧
    (Instr.frmPacket []).wellFormed = false ∧ (Instr.frmPacket [0]).wellFormed = true := by decide

/-- An id past its range, data past the dlc, data in a remote frame. -/
theorem test_wf_frame :
    (Instr.encSlcan { f001 with id := 0x800 }).wellFormed = false ∧
    (Instr.encSlcan { f001 with id := 0x7FF }).wellFormed = true ∧
    (Instr.txGate { fMax with id := 0x20000000 }).wellFormed = false ∧ (Instr.txGate fMax).wellFormed = true ∧
    (Instr.evBusRx { f123 with dlc := 1 }).wellFormed = false ∧ (Instr.evBusRx f123).wellFormed = true ∧
    (Instr.encHostframe { f123 with remote := true } 0).wellFormed = false ∧
    (Instr.encHostframe r123 0).wellFormed = true := by decide

/-! ### Decoding: a unit written out from the spec's encoding, for every constructor that has one -/

/-- 30_encoding.md R96, the nine opcodes, and R97. -/
theorem test_decode_lines :
    decode (cfgOf .text) .line [0x74, 0x30, 0x30, 0x31, 0x30] = .ok (.slDataStd [0x30, 0x30, 0x31, 0x30]) ∧
    decode (cfgOf .text) .line [0x54, 0x30, 0x30, 0x30, 0x30, 0x30, 0x31, 0x32, 0x33, 0x30] =
      .ok (.slDataExt [0x30, 0x30, 0x30, 0x30, 0x30, 0x31, 0x32, 0x33, 0x30]) ∧
    decode (cfgOf .text) .line [0x72, 0x31, 0x32, 0x33, 0x34] = .ok (.slRemoteStd [0x31, 0x32, 0x33, 0x34]) ∧
    decode (cfgOf .text) .line [0x52, 0x31, 0x41, 0x42, 0x43, 0x44, 0x45, 0x46, 0x30, 0x30] =
      .ok (.slRemoteExt [0x31, 0x41, 0x42, 0x43, 0x44, 0x45, 0x46, 0x30, 0x30]) ∧
    decode (cfgOf .text) .line [0x4F] = .ok (.slOpen []) ∧ decode (cfgOf .text) .line [0x43] = .ok (.slClose []) ∧
    decode (cfgOf .text) .line [0x53, 0x38] = .ok (.slSetBitrate [0x38]) ∧
    decode (cfgOf .text) .line [0x56] = .ok (.slVersionHw []) ∧
    decode (cfgOf .text) .line [0x76] = .ok (.slVersionSw []) ∧
    decode (cfgOf .text) .line [0x6F, 0x31] = .ok (.slUnknown 0x6F [0x31]) := by decide

/-- 30_encoding.md R95, the tokens and the version responses; R98, a record. -/
theorem test_decode_units :
    decode (cfgOf .text) .token [0x0D] = .ok .ack ∧ decode (cfgOf .text) .token [0x07] = .ok .nak ∧
    decode (cfgOf .text) .version [0x48, 0x57, 0x48, 0x57, 0x0D] = .ok .verHw ∧
    decode (cfgOf .text) .version [0x53, 0x57, 0x53, 0x57, 0x0D] = .ok .verSw ∧
    decode (cfgOf .binary) .record b1 = .ok (.decHostframe b1) := by decide

/-- What no port has is refused by name. -/
theorem test_decode_refuses :
    decode (cfgOf .text) .line [] = .error .emptyLine ∧ decode (cfgOf .text) .token [0x0A] = .error .notToken ∧
    decode (cfgOf .text) .version [0x48, 0x57, 0x48, 0x57] = .error .notVersion ∧
    decode (cfgOf .binary) .record (List.replicate 20 0) = .error .recordSize := by decide

/-- The encoder writes the port and the bytes; the abstract commands and events have none (30_encoding.md R105, R108). -/
theorem test_encode_units :
    encode (cfgOf .text) (.slDataStd [0x30, 0x30, 0x31, 0x30]) = some (.line, t0010) ∧
    encode (cfgOf .text) .nak = some (.token, [0x07]) ∧
    encode (cfgOf .text) .verHw = some (.version, [0x48, 0x57, 0x48, 0x57, 0x0D]) ∧
    encode (cfgOf .binary) (.decHostframe b1) = some (.record, b1) ∧
    encode (cfgOf .binary) .modeStart = none ∧ encode (cfgOf .text) .evBusoff = none := by decide

/-- The host's numbering: bit 0 is the least significant bit of the first byte (log 11). `74` is opcode `t`. -/
theorem test_decodeTableWord :
    decodeTableWord 8 0x74 = some (.slDataStd [0, 0, 0, 0]) ∧ decodeTableWord 16 0x3853 = some (.slSetBitrate [0x38]) ∧
    decodeTableWord 8 0x0D = some .ack ∧ decodeTableWord 8 0x07 = some .nak ∧
    decodeTableWord 8 0x78 = some (.slUnknown 0x78 []) := by decide

/-- The word placed is the instruction the next step runs: `S8` stores the timing of the table's entry 8. -/
theorem test_withFetchWord :
    (nextOf (step ((closed .binary).withFetchWord 16 0x3853))).map (fun t => (t.bt, t.hout, t.lb)) =
      some (tt 8, [[0x0D]], []) ∧
    (nextOf (step (State.reset.withFetchWord 8 0x07))).map (fun t => t.hout) = some [[0x07]] := by decide

/-! ### The text codec -/

/-- T1, T2, T8, T12, T21. -/
theorem test_text_data_frames :
    decodeSlcan [0x74, 0x30, 0x30, 0x30, 0x30] = .ok (.frame { f001 with id := 0 }) ∧
    decodeSlcan [0x74, 0x37, 0x46, 0x46, 0x30] = .ok (.frame { f001 with id := 0x7FF }) ∧
    decodeSlcan [0x74, 0x37, 0x66, 0x66, 0x31, 0x61, 0x42] =
      .ok (.frame (dataFrame 0x7FF false 1 #v[0xAB, 0, 0, 0, 0, 0, 0, 0])) ∧
    decodeSlcan ([0x54, 0x31] ++ List.replicate 7 0x46 ++ [0x38] ++ List.replicate 16 0x46) = .ok (.frame fMax) := by
  decide

/-- T24, T25, T27. -/
theorem test_text_remote_frames :
    decodeSlcan [0x72, 0x31, 0x32, 0x33, 0x34] = .ok (.frame r123) ∧
    decodeSlcan [0x72, 0x31, 0x32, 0x33, 0x38] = .ok (.frame { r123 with dlc := 8 }) ∧
    decodeSlcan [0x52, 0x31, 0x41, 0x42, 0x43, 0x44, 0x45, 0x46, 0x30, 0x30] =
      .ok (.frame { r123 with id := 0x1ABCDEF0, extended := true, dlc := 0 }) := by decide

/-- T3, T4, T5, T6, T14, T15, T16, T19: which check decides. -/
theorem test_text_check_order :
    decodeSlcan [0x74, 0x38, 0x30, 0x30, 0x30] = .err .idRange ∧
    decodeSlcan [0x74, 0x38, 0x30, 0x30, 0x39] = .err .badDlc ∧
    decodeSlcan [0x74, 0x30, 0x30, 0x31, 0x47] = .err .badHex ∧
    decodeSlcan [0x74, 0x30, 0x47, 0x31, 0x39] = .err .badHex ∧
    decodeSlcan [0x74, 0x31, 0x32, 0x33, 0x31, 0x5A, 0x5A] = .err .badHex ∧
    decodeSlcan [0x74, 0x31, 0x32, 0x33, 0x30, 0x20] = .err .tooLong ∧
    decodeSlcan [0x74, 0x31, 0x32, 0x33, 0x31, 0x41] = .err .truncated ∧
    decodeSlcan [0x54, 0x32, 0x30, 0x30, 0x30, 0x30, 0x30, 0x30, 0x30, 0x30] = .err .idRange := by decide

/-- V5: a short line of any characters is truncated. -/
theorem test_text_truncated :
    decodeSlcan [0x74] = .err .truncated ∧ decodeSlcan [0x74, 0x5A, 0x5A] = .err .truncated ∧
    decodeSlcan [0x54, 0x31, 0x32, 0x33, 0x34, 0x35, 0x36, 0x37, 0x38] = .err .truncated ∧
    decodeSlcan [0x53] = .err .truncated := by decide

/-- T31, T36, T37 and V6. -/
theorem test_text_control_errors :
    decodeSlcan [0x4F, 0x4F] = .err .tooLong ∧ decodeSlcan [0x43, 0x20] = .err .tooLong ∧
    decodeSlcan [0x56, 0x78] = .err .tooLong ∧ decodeSlcan [0x53, 0x39] = .err .badBitrate ∧
    decodeSlcan [0x53, 0x2F] = .err .badBitrate ∧ decodeSlcan [0x53, 0x31, 0x30] = .err .tooLong ∧
    decodeSlcan [0x6F] = .err .unknownOpcode ∧ decodeSlcan [0x00] = .err .unknownOpcode := by decide

/-- 2.2: ids zero-padded, no data digits in a remote line, uppercase digits high nibble first; V3. -/
theorem test_text_encode :
    encodeSlcan { f001 with extended := true } =
      [0x54, 0x30, 0x30, 0x30, 0x30, 0x30, 0x30, 0x30, 0x31, 0x30, 0x0D] ∧
    encodeSlcan { r123 with id := 0x00A, dlc := 8 } = [0x72, 0x30, 0x30, 0x41, 0x38, 0x0D] ∧
    encodeSlcan (dataFrame 0x7AB false 2 #v[0x0A, 0xF0, 0, 0, 0, 0, 0, 0]) =
      [0x74, 0x37, 0x41, 0x42, 0x32, 0x30, 0x41, 0x46, 0x30, 0x0D] ∧
    (encodeSlcan fMax).length = 27 := by decide

/-! ### The binary codec -/

/-- B2, B4, B5, B6. -/
theorem test_binary_decode :
    decodeHostframe .packed17 [0, 0, 0, 0, 0x23, 0x01, 0, 0, 0x02, 0xAA, 0xBB, 0xCC, 0xDD, 0, 0, 0, 0] = f123 ∧
    decodeHostframe .packed17 [7, 0, 0, 0, 0xFF, 0xFF, 0xFF, 0xFF, 0x0F, 1, 2, 3, 4, 5, 6, 7, 8] =
      dataFrame 0x1FFFFFFF true 8 #v[1, 2, 3, 4, 5, 6, 7, 8] ∧
    decodeHostframe .packed17 [0, 0, 0, 0, 0x00, 0x08, 0, 0, 0, 0, 0, 0, 0, 0, 0, 0, 0] = { f001 with id := 0 } ∧
    decodeHostframe .packed17 b6 = dataFrame 0x123 false 1 #v[0x55, 0, 0, 0, 0, 0, 0, 0] := by decide

/-- B1, B3, B5, B7, B8. -/
theorem test_binary_wellformed :
    hostframeWellformed b1 = true ∧
    hostframeWellformed [1, 0, 0, 0, 0xFF, 0xFF, 0xFF, 0x9F, 8, 1, 2, 3, 4, 5, 6, 7, 8] = true ∧
    hostframeWellformed [0, 0, 0, 0, 0x00, 0x08, 0, 0, 0, 0, 0, 0, 0, 0, 0, 0, 0] = false ∧
    hostframeWellformed [0, 0, 0, 0, 0x23, 0x01, 0, 0x20, 0, 0, 0, 0, 0, 0, 0, 0, 0] = false ∧
    hostframeWellformed [0, 0, 0, 0, 0xFF, 0x07, 0, 0, 9, 1, 2, 3, 4, 5, 6, 7, 8] = false := by decide

/-- V3, both layouts. -/
theorem test_binary_encode :
    encodeHostframe .packed17 (dataFrame 0x1FFFFFFF true 3 #v[0xDE, 0xAD, 0xBE, 0, 0, 0, 0, 0]) 0xFFFFFFFF =
      [0xFF, 0xFF, 0xFF, 0xFF, 0xFF, 0xFF, 0xFF, 0x9F, 3, 0xDE, 0xAD, 0xBE, 0, 0, 0, 0, 0] ∧
    encodeHostframe .packed17 r123 0xFFFFFFFF =
      [0xFF, 0xFF, 0xFF, 0xFF, 0x23, 0x01, 0, 0, 4, 0, 0, 0, 0, 0, 0, 0, 0] ∧
    encodeHostframe .gsusb20 (dataFrame 0x0AB false 1 #v[0x0F, 0, 0, 0, 0, 0, 0, 0]) 5 =
      [5, 0, 0, 0, 0xAB, 0, 0, 0, 1, 0, 0, 0, 0x0F, 0, 0, 0, 0, 0, 0, 0] := by decide

/-! ### Executing: text -/

/-- X7: a frame line transmitted, and one the driver turns away. -/
theorem test_slDataStd :
    (nextOf (exec (.slDataStd [0x30, 0x30, 0x31, 0x30]) (State.answersTx (openState .text) .ok))).map
      (fun t => (t.hout, t.drvLog, t.txDropCnt)) = some ([[0x0D]], [.transmit f001 50], 0) ∧
    (nextOf (exec (.slDataStd [0x30, 0x30, 0x31, 0x30]) (State.answersTx (openState .text) .timeout))).map
      (fun t => (t.hout, t.drvLog, t.txDropCnt)) = some ([[0x07]], [.transmit f001 50], 1) := by decide

/-- P1 step 7: `"T1ABCDEF01FF"`. -/
theorem test_slDataExt :
    (nextOf (exec (.slDataExt [0x31, 0x41, 0x42, 0x43, 0x44, 0x45, 0x46, 0x30, 0x31, 0x46, 0x46])
      (State.answersTx (openState .text) .ok))).map (fun t => (t.hout, t.drvLog)) =
      some ([[0x0D]], [.transmit (dataFrame 0x1ABCDEF0 true 1 #v[0xFF, 0, 0, 0, 0, 0, 0, 0]) 50]) := by decide

/-- P1 step 10: `"r0A10"`. -/
theorem test_slRemoteStd :
    (nextOf (exec (.slRemoteStd [0x30, 0x41, 0x31, 0x30]) (State.answersTx (openState .text) .ok))).map
      (fun t => (t.hout, t.drvLog)) = some ([[0x0D]], [.transmit { r123 with id := 0x0A1, dlc := 0 } 50]) := by decide

/-- S22: not open, so nothing reaches the driver. -/
theorem test_slRemoteExt :
    (nextOf (exec (.slRemoteExt [0x31, 0x41, 0x42, 0x43, 0x44, 0x45, 0x46, 0x30, 0x30]) (live .text .busOff))).map
      (fun t => (t.hout, t.drvLog, t.txDropCnt, t.busState)) = some ([[0x07]], [], 1, .busOff) := by decide

/-- X1, and X3 with `BT` already set. -/
theorem test_slOpen :
    (nextOf (exec (.slOpen []) (closed .text))).map (fun t => (t.hout, t.drvLog, t.ctrlErr)) =
      some ([[0x07]], [], some .notConfigured) ∧
    (nextOf (exec (.slOpen []) (State.answersOpen { closed .text with bt := tt 6, btValid := true } .ok .ok))).map
      (fun t => (t.hout, t.drvLog, t.busState)) = some ([[0x0D]], [.install (tt 6), .start], .opened) := by decide

/-- X9, and P1 step 15. -/
theorem test_slClose :
    (nextOf (exec (.slClose []) (closed .text))).map (fun t => (t.hout, t.drvLog)) = some ([[0x0D]], []) ∧
    (nextOf (exec (.slClose []) (openState .text))).map (fun t => (t.hout, t.drvLog, t.busState, t.inst)) =
      some ([[0x0D]], [.stop, .uninstall], .closed, none) := by decide

/-- X5: a new bitrate while open restarts the instance; here the install fails. -/
theorem test_slSetBitrate_open :
    (nextOf (exec (.slSetBitrate [0x35]) (State.answersOpen (openState .text) .fail .ok))).map
      (fun t => (t.hout, t.drvLog, t.bt, t.busState, t.ctrlErr)) =
      some ([[0x07]], [.stop, .uninstall, .install (tt 5)], tt 5, .closed, some .installFailed) := by decide

/-- X12, X13: no timing for code 7. -/
theorem test_slSetBitrate_fallback :
    (nextOf (exec (.slSetBitrate [0x37]) { closed .text with cfg := cfgNo7 .reject })).map
      (fun t => (t.hout, t.btValid, t.warnFallback)) = some ([[0x07]], false, false) ∧
    (nextOf (exec (.slSetBitrate [0x37]) { closed .text with cfg := cfgNo7 .legacyDowngrade })).map
      (fun t => (t.hout, t.bt, t.btValid, t.warnFallback)) = some ([[0x0D]], tt 6, true, true) := by decide

/-- X10. -/
theorem test_versions :
    (nextOf (exec (.slVersionHw []) (closed .text))).map (fun t => t.hout) = some [[0x48, 0x57, 0x48, 0x57, 0x0D]] ∧
    (nextOf (exec (.slVersionSw []) (closed .text))).map (fun t => t.hout) = some [[0x53, 0x57, 0x53, 0x57, 0x0D]] ∧
    (nextOf (exec .verHw (closed .text))).map (fun t => t.hout) = some [[0x48, 0x57, 0x48, 0x57, 0x0D]] ∧
    (nextOf (exec .verSw (closed .text))).map (fun t => t.hout) = some [[0x53, 0x57, 0x53, 0x57, 0x0D]] := by decide

/-- X11: `"x"`; nothing but the bell. -/
theorem test_slUnknown :
    (nextOf (exec (.slUnknown 0x78 []) (closed .text))).map (fun t => (t.hout, t.txDropCnt, t.ret)) =
      some ([[0x07]], 0, .decoded (.err .unknownOpcode)) := by decide

/-- 30_encoding.md R95: the tokens are Text units. -/
theorem test_tokens :
    (nextOf (exec .ack (closed .text))).map (fun t => t.hout) = some [[0x0D]] ∧
    (nextOf (exec .nak (closed .text))).map (fun t => t.hout) = some [[0x07]] ∧
    faultOf (exec .ack (closed .binary)) = some .onlyText := by decide

/-- V1: the codec functions return, and touch nothing. -/
theorem test_codec_results :
    (nextOf (exec (.encSlcan f001) (closed .binary))).map (fun t => t.ret) =
      some (.bytes [0x74, 0x30, 0x30, 0x31, 0x30, 0x0D]) ∧
    (nextOf (exec (.decHostframe b6) (closed .binary))).map (fun t => (t.ret, t.hfDefect)) =
      some (.frame (dataFrame 0x123 false 1 #v[0x55, 0, 0, 0, 0, 0, 0, 0]), false) ∧
    (nextOf (exec (.encHostframe r123 0xFFFFFFFF) (closed .text))).map (fun t => t.ret) =
      some (.bytes [0xFF, 0xFF, 0xFF, 0xFF, 0x23, 0x01, 0, 0, 4, 0, 0, 0, 0, 0, 0, 0, 0]) := by decide

/-! ### Executing: framers -/

/-- F1: the terminator completes the line; F3: an empty line is nothing. -/
theorem test_frmByte_terminator :
    (nextOf (exec (.frmByte 0x0D) { closed .text with lb := t0010 })).map (fun t => (t.lb, t.hout, t.txDropCnt)) =
      some ([], [[0x07]], 1) ∧
    (nextOf (exec (.frmByte 0x0A) (closed .text))).map (fun t => t.hout) = some [] := by decide

set_option maxRecDepth 8192 in
/-- F7: the 129th character is dropped; the 128th is kept. -/
theorem test_frmByte_capacity :
    (nextOf (exec (.frmByte 0x30) { closed .text with lb := List.replicate 127 0x30 })).map (fun t => t.lb.length) =
      some 128 ∧
    (nextOf (exec (.frmByte 0x30) { closed .text with lb := List.replicate 128 0x30 })).map (fun t => t.lb.length) =
      some 128 := by decide

/-- K2: a packet of 20 bytes with 17-byte records. -/
theorem test_frmPacket_rest :
    (nextOf (exec (.frmPacket (b1 ++ [1, 2, 3])) (State.answersTx (openState .binary) .ok))).map
      (fun t => (t.rb, t.drvLog, t.hout)) = some ([1, 2, 3], [.transmit f123 50], []) := by decide

set_option maxRecDepth 8192 in
/-- K5, in `Closed`; K6: three records. -/
theorem test_frmPacket_whole :
    (nextOf (exec (.frmPacket [0]) { closed .binary with rb := b1.take 16 })).map (fun t => (t.rb, t.txDropCnt)) =
      some ([], 1) ∧
    (nextOf (exec (.frmPacket (b1 ++ b6 ++ b1)) (closed .binary))).map (fun t => (t.rb, t.txDropCnt, t.hfDefect)) =
      some ([], 3, true) := by decide

/-- Y6. -/
theorem test_execRecord :
    (nextOf (exec (.execRecord b6) (State.answersTx (openState .binary) .error))).map
      (fun t => (t.hfDefect, t.drvLog, t.txDropCnt, t.hout)) =
      some (true, [.transmit (dataFrame 0x123 false 1 #v[0x55, 0, 0, 0, 0, 0, 0, 0]) 50], 1, []) := by decide

set_option maxRecDepth 8192 in
/-- F8: a line of 128 characters. -/
theorem test_execLine :
    (nextOf (exec (.execLine (t0010 ++ List.replicate 123 0x30)) (closed .text))).map (fun t => (t.hout, t.ret)) =
      some ([[0x07]], .decoded (.err .tooLong)) := by decide

/-! ### Executing: the bus-state machine -/

/-- S5, S6. -/
theorem test_configure :
    (nextOf (exec (.configure (tt 3)) (State.answersOpen (openState .binary) .ok .ok))).map
      (fun t => (t.drvLog, t.busState, t.inst)) =
      some ([.stop, .uninstall, .install (tt 3), .start], .opened, some { timing := tt 3, started := true }) ∧
    (nextOf (exec (.configure (tt 3)) (State.answersOpen (openState .binary) .fail .ok))).map
      (fun t => (t.drvLog, t.busState, t.ctrlErr)) =
      some ([.stop, .uninstall, .install (tt 3)], .closed, some .installFailed) := by decide

/-- S4, S20. -/
theorem test_cmdOpen :
    (nextOf (exec .cmdOpen (State.answersOpen { closed .text with bt := tt 6, btValid := true } .ok .fail))).map
      (fun t => (t.drvLog, t.ctrlErr, t.ret)) =
      some ([.install (tt 6), .start, .uninstall], some .startFailed, .ctl (.err .startFailed)) ∧
    (nextOf (exec .cmdOpen (State.answersOpen (live .text .busOff) .ok .ok))).map
      (fun t => (t.drvLog, t.busState, t.recReq)) =
      some ([.stop, .uninstall, .install (tt 6), .start], .opened, false) := by decide

/-- S8, S21. -/
theorem test_cmdClose :
    (nextOf (exec .cmdClose (closed .text))).map (fun t => (t.drvLog, t.ret)) = some ([], .ctl .ok) ∧
    (nextOf (exec .cmdClose (live .text .recovering))).map (fun t => (t.drvLog, t.busState, t.recTimer)) =
      some ([.stop, .uninstall], .closed, false) := by decide

/-- S22, S23. -/
theorem test_txGate :
    (nextOf (exec (.txGate f001) (live .text .recovering))).map (fun t => (t.drvLog, t.ret)) =
      some ([], .tx (.err .notOpen)) ∧
    (nextOf (exec (.txGate f001) (State.answersTx (openState .text) .error))).map (fun t => (t.drvLog, t.ret, t.txDropCnt)) =
      some ([.transmit f001 50], .tx (.err .driver), 0) := by decide

/-- S9, S14. -/
theorem test_evBusoff :
    (nextOf (exec .evBusoff (openState .text))).map (fun t => (t.busState, t.recReq)) = some (.busOff, true) ∧
    (nextOf (exec .evBusoff { live .text .busOff with recReq := false })).map (fun t => (t.busState, t.recReq)) =
      some (.busOff, false) := by decide

/-- S10, S15. -/
theorem test_recStart :
    (nextOf (exec .recStart (live .text .busOff))).map (fun t => (t.busState, t.recReq, t.drvLog)) =
      some (.recovering, false, [.initiateRecovery]) ∧
    faultOf (exec .recStart { live .text .busOff with recReq := false }) = some .noRecoveryRequested := by decide

/-- S11, S13. -/
theorem test_evRecDone :
    (nextOf (exec .evRecDone (live .text .recovering))).map (fun t => (t.busState, t.recResult)) =
      some (.opened, .ok) ∧
    (nextOf (exec .evRecDone (live .text .busOff))).map (fun t => t.busState) = some .busOff := by decide

/-- S12. -/
theorem test_evRecTimeout :
    (nextOf (exec .evRecTimeout (live .text .recovering))).map
      (fun t => (t.busState, t.recReq, t.recResult, t.ctrlErr)) =
      some (.busOff, false, .timeout, some .recoveryTimeout) ∧
    faultOf (exec .evRecTimeout (openState .text)) = some .notRecovering := by decide

/-- S18, S19. -/
theorem test_evFatal :
    (nextOf (exec .evFatal (live .text .recovering))).map (fun t => (t.busState, t.ctrlErr, t.drvLog)) =
      some (.closed, some .fatal, [.stop, .uninstall]) ∧
    (nextOf (exec .evFatal (closed .text))).map (fun t => t.ctrlErr) = some none := by decide

/-- S16, S17. -/
theorem test_cmdCheck :
    (nextOf (exec .cmdCheck { live .text .busOff with recReq := false })).map (fun t => t.recReq) = some true ∧
    (nextOf (exec .cmdCheck (live .text .recovering))).map (fun t => t.recReq) = some false := by decide

/-! ### Executing: control commands, queue, turns -/

/-- Y1, Y7, Y8, Y9, Y10. -/
theorem test_control_responses :
    (nextOf (exec .modeStart (closed .binary))).map (fun t => t.cout) = some [.err .notConfigured] ∧
    (nextOf (exec (.hostFormat 0xBEEF) (closed .binary))).map (fun t => t.cout) = some [.ack] ∧
    (nextOf (exec .btConst (closed .binary))).map (fun t => t.cout) = some [.data [0xB7]] ∧
    (nextOf (exec .deviceConfig (closed .binary))).map (fun t => t.cout) = some [.data [0xDC, 0x01]] ∧
    (nextOf (exec .ctlOther (closed .binary))).map (fun t => t.cout) = some [.unknown] ∧
    (nextOf (exec .modeStop (openState .binary))).map (fun t => (t.cout, t.drvLog, t.busState)) =
      some ([.ack], [.stop, .uninstall], .closed) := by decide

/-- Y3: the running instance keeps its timing. -/
theorem test_setBittiming :
    (nextOf (exec (.setBittiming (tt 3)) (openState .binary))).map (fun t => (t.bt, t.cout, t.drvLog, t.inst)) =
      some (tt 3, [.ack], [], some { timing := tt 6, started := true }) := by decide

set_option maxRecDepth 8192 in
/-- Q1, Q3, Q5, Q6. -/
theorem test_evBusRx :
    (nextOf (exec (.evBusRx (dataFrame 0x7FF false 1 #v[0x5A, 0, 0, 0, 0, 0, 0, 0])) (openState .text))).map
      (fun t => t.oq) = some [[0x74, 0x37, 0x46, 0x46, 0x31, 0x35, 0x41, 0x0D]] ∧
    (nextOf (exec (.evBusRx r123) (live .binary .busOff))).map (fun t => t.oq) =
      some [[0xFF, 0xFF, 0xFF, 0xFF, 0x23, 0x01, 0, 0, 4, 0, 0, 0, 0, 0, 0, 0, 0]] ∧
    (nextOf (exec (.evBusRx r123)
      { openState .text with oq := List.replicate 128 [0x0D], rxDropCnt := 0xFFFFFFFF })).map
      (fun t => (t.oq.length, t.rxDropCnt)) = some (128, 0) ∧
    faultOf (exec (.evBusRx r123) (closed .text)) = some .noInstance := by decide

/-- Q7. -/
theorem test_htxPop :
    (nextOf (exec .htxPop { closed .text with oq := [[1, 2], [3]] })).map (fun t => (t.oq, t.hout)) =
      some ([[3]], [[1, 2]]) ∧
    faultOf (exec .htxPop (closed .text)) = some .queueEmpty := by decide

/-- 60_exceptions.md R312: a turn whose step is not enabled passes; an operand the block cannot meet is refused. -/
theorem test_step_turns :
    (nextOf (step { closed .text with turns := [.op .recStart, .hrx] })).map (fun t => (t.turns, t.busState)) =
      some ([.hrx], .closed) ∧
    (nextOf (step { closed .text with turns := [.hrx], hinText := [0x56] })).map (fun t => (t.lb, t.hinText)) =
      some ([0x56], []) ∧
    (nextOf (step { closed .binary with turns := [.hrx], hinBin := [[], [7]] })).map (fun t => (t.rb, t.hinBin)) =
      some ([7], []) ∧
    (nextOf (step { closed .binary with turns := [.ctl], cin := [.btConst, .modeStop] })).map
      (fun t => (t.cout, t.cin)) = some ([.data [0xB7]], [.modeStop]) ∧
    (nextOf (step { closed .text with turns := [.op (.evBusRx { f001 with id := 0x800 })] })).isNone := by decide

/-! ### Witnesses: the hypotheses of each obligation, met together -/

/-- A state of the invariant that has the writer, the bus receiver and the recovery unit still to move. -/
def busy : State := { openState .text with turns := [.op .evBusoff, .op .recStart, .op .htxPop], oq := [encodeSlcan f001] }

theorem witness_Inv : Inv busy where
  cfg := by decide
  lbCap := by decide
  lbClean := by decide
  rbShort := by decide
  lbUnused := by decide
  rbUnused := by decide
  coutUnused := by decide
  recReqBusOff := by decide
  btValid := by decide
  instClosed := by decide
  instOpen := fun _ => ⟨tt 6, rfl⟩
  instTiming := by
    intro _ d h
    cases h
    rfl
  timer := by decide
  oqCap := by decide
  oqUnits := by
    intro u hu
    obtain rfl : u = encodeSlcan f001 := List.mem_singleton.mp hu
    exact ⟨f001, by decide, rfl⟩
  houtUnits := fun _ hu => nomatch hu
  warnReject := by decide
  turns := by decide

/-- StepKeepsInvariant, StepKeepsConfiguration: a step that changes the state. -/
theorem witness_step : (nextOf (step busy)).map (fun t => (t.busState, t.recReq)) = some (.busOff, true) := by decide

/-- AgentStepsNeverStop, first clause. -/
theorem witness_agentTurns : ∀ t ∈ busy.turns, agentTurn t = true := by decide

/-- The run from `s` in which the environment supplies nothing. -/
def runFrom (s : State) : Nat → State
  | 0 => s
  | n + 1 => (nextOf (step (runFrom s n))).getD (runFrom s n)

/-- Once no turn is left the run stays where it is. -/
theorem runFrom_idle {s : State} {k : Nat} (h : (runFrom s k).turns = []) (n : Nat) :
    runFrom s (k + n) = runFrom s k := by
  induction n with
  | zero => rfl
  | succ n ih =>
    rw [← Nat.add_assoc, runFrom, ih]
    simp [step, h, nextOf]

/-- `runFrom s` is a run if its first `k` steps are of agents and complete, and no turn is left then. -/
theorem runFrom_run {s : State} {k : Nat} (h : (runFrom s k).turns = [])
    (ha : ∀ n < k, ∀ t ∈ (runFrom s n).turns, agentTurn t = true)
    (hs : ∀ n < k, (nextOf (step (runFrom s n))).isSome) : Run (runFrom s) := by
  have after : ∀ n, ¬n < k → runFrom s n = runFrom s k := fun n hn => by
    rw [← Nat.add_sub_of_le (Nat.le_of_not_lt hn)]; exact runFrom_idle h _
  have done : ∀ n, step (runFrom s n) = .next (runFrom s (n + 1)) := fun n => by
    by_cases hn : n < k
    · have := hs n hn
      rw [runFrom]
      cases he : step (runFrom s n) <;> simp_all [nextOf]
    · rw [after n hn, after (n + 1) (by omega)]; simp [step, h]
  refine ⟨fun n t ht => ?_, fun n => ⟨_, done n, [], [], [], [], [], [], [], by simp, by simp⟩⟩
  by_cases hn : n < k
  · exact ha n hn t ht
  · rw [after n hn, h] at ht; simp at ht

/-- In `Recovering`, two units waiting: the writer moves twice, then the driver reports that recovery is complete. -/
def waiting : State :=
  { live .text .recovering with oq := [[1], [2]], turns := [.op .htxPop, .op .htxPop, .op .evRecDone] }

/-- AgentStepsNeverStop and QueueIsFifo, second clauses: a weakly fair run with a recovery wait and units in `OQ`, one
before and one behind. -/
theorem witness_fairRun :
    Run (runFrom waiting) ∧ WeaklyFair (runFrom waiting) ∧ (runFrom waiting 0).busState = .recovering ∧
      (runFrom waiting 0).oq = [[1]] ++ [2] :: [] ∧ (runFrom waiting 0).oq = [] ++ [1] :: [[2]] := by
  have idle : (runFrom waiting 3).turns = [] := by decide
  have last : ∀ n, runFrom waiting (3 + n) = runFrom waiting 3 := runFrom_idle idle
  refine ⟨runFrom_run idle (by decide) (by decide),
    ⟨fun n => ⟨3 + n, by omega, .inl ?_⟩, fun n => ⟨3 + n, by omega, .inl ?_⟩⟩, by decide⟩ <;> rw [last] <;> decide

/-- AgentStepsNeverStop: each of the two events ends the wait. -/
theorem witness_waitEnds :
    takesAt (runFrom waiting) 2 (.op .evRecDone) ∧ (runFrom waiting 2).busState = .recovering ∧
      takesAt (runFrom { waiting with turns := [.op .evRecTimeout] }) 0 (.op .evRecTimeout) := by
  unfold takesAt; decide

/-- StepExecutesDecodedLine, both terminators. -/
theorem witness_StepExecutesDecodedLine :
    let s := { closed .text with turns := [.hrx], hinText := [cr], lb := t0010 }
    let s' := { closed .text with turns := [.hrx, .hrx], hinText := [lf, 0x56], lb := [0x4F] }
    (s.turns = .hrx :: [] ∧ s.cfg.proto = .text ∧ s.hinText = cr :: [] ∧
      decodeLine s.lb = .ok (.slDataStd [0x30, 0x30, 0x31, 0x30])) ∧
    (s'.turns = .hrx :: [.hrx] ∧ s'.cfg.proto = .text ∧ s'.hinText = lf :: [0x56] ∧
      decodeLine s'.lb = .ok (.slOpen [])) := by decide

/-- StepRunsTheTurn: the clauses on `HRX` and `CTL`. -/
theorem witness_StepRunsTheTurn_streams :
    (closed .text).turns = [] ∧
    (let s := { closed .text with turns := [.hrx], hinText := [0xFF] }
     s.turns = .hrx :: [] ∧ s.cfg.proto = .text ∧ s.hinText = 0xFF :: []) ∧
    (let s := { closed .binary with turns := [.hrx], hinBin := [[], [0], []] }
     s.turns = .hrx :: [] ∧ s.cfg.proto = .binary ∧ (∀ e ∈ [([] : List Byte)], e = []) ∧ [(0 : Byte)] ≠ [] ∧
      s.hinBin = [[]] ++ [0] :: [[]]) ∧
    (let s := { closed .binary with turns := [.ctl, .hrx], cin := [.other] }
     s.turns = .ctl :: [.hrx] ∧ s.cfg.proto = .binary ∧ s.cin = .other :: []) := by decide

/-- StepRunsTheTurn: nothing to take, by `HRX` in each protocol (an empty packet waits) and by `CTL` in each. -/
theorem witness_StepRunsTheTurn_nothing :
    (let s := { closed .text with turns := [.hrx] }
     s.turns = .hrx :: [] ∧ s.cfg.proto = .text ∧ s.hinText = []) ∧
    (let s := { closed .binary with turns := [.hrx], hinBin := [[]] }
     s.turns = .hrx :: [] ∧ s.cfg.proto = .binary ∧ ∀ e ∈ s.hinBin, e = []) ∧
    (let s := { closed .binary with turns := [.ctl] }
     s.turns = .ctl :: [] ∧ s.cfg.proto ≠ .text ∧ s.cin = []) ∧
    (let s := { closed .text with turns := [.ctl], cin := [.other] }
     s.turns = .ctl :: [] ∧ s.cfg.proto = .text) := by decide

/-- StepRunsTheTurn: a named operation that completes, one that is not enabled, a record of the other layout's size, an
operand the block cannot meet. -/
theorem witness_StepRunsTheTurn_op :
    (Instr.evBusoff.wellFormed = true ∧ (nextOf (exec .evBusoff (closed .text))).isSome) ∧
    (Instr.recStart.wellFormed = true ∧ faultOf (exec .recStart (closed .text)) = some .noRecoveryRequested) ∧
    ((Instr.decHostframe (List.replicate 20 0)).wellFormed = true ∧
      refusalOf (exec (.decHostframe (List.replicate 20 0)) (closed .text)) = some .recordSize) ∧
    (Instr.evBusRx { f001 with id := 0x800 }).wellFormed = false := by decide

/-- CompletesExactlyWhereEnabled: both sides at the boundary of a record's size. -/
theorem witness_enabled :
    enabled (closed .binary) (.execRecord b1) = true ∧ enabled (closed .binary) (.execRecord (b1.drop 1)) = false ∧
    enabled (closed .binary) (.execRecord (0 :: b1)) = false := by decide

/-- TextRoundTrip, EncSlcanWritesTheLine, EncHostframeWritesTheRecord, BinaryRoundTrip, WellformedRecords, TransmitGate,
BusFrameQueuedOrCounted, RecoveryScenario: valid frames, the ids at the ends of their ranges. -/
theorem witness_validFrames :
    f001.valid = true ∧ { f001 with id := 0x7FF }.valid = true ∧ r123.valid = true ∧ fMax.valid = true ∧
    { r123 with extended := true, dlc := 8 }.valid = true := by decide

/-- TextConverseRoundTrip, TextDecodeGivesValidFrames, RecoveryScenario (the text clause): a line with lowercase digits
(T9). -/
theorem witness_frameLine :
    decodeSlcan (0x74 :: [0x31, 0x32, 0x33, 0x32, 0x61, 0x61, 0x62, 0x62]) = .ok (.frame f123) := by decide

/-- FrameLineChecksInOrder: the length, hex and dlc clauses, where they meet (5 characters are enough, 4 are not; 8 is a
dlc, 9 is not). -/
theorem witness_FrameLineChecks_head :
    (0x74, 3, false, false) ∈ frameLineKinds ∧
    ((0x74 :: [0x30, 0x30, 0x31] : List Byte).length < 1 + 3 + 1) ∧
    (1 + 3 + 1 ≤ (0x74 :: [0x30, 0x47, 0x31, 0x30] : List Byte).length ∧
      isHex (byteAt ([0x30, 0x47, 0x31, 0x30].take 3) 1) = false) ∧
    (1 + 3 + 1 ≤ (0x74 :: [0x30, 0x30, 0x31, 0x47] : List Byte).length ∧
      isHex (byteAt [0x74, 0x30, 0x30, 0x31, 0x47] (1 + 3)) = false) ∧
    ((∀ c ∈ ([0x38, 0x30, 0x30, 0x39] : List Byte).take 3, isHex c = true) ∧
      isHex (byteAt [0x74, 0x38, 0x30, 0x30, 0x39] (1 + 3)) = true ∧
      8 < hexVal (byteAt [0x74, 0x38, 0x30, 0x30, 0x39] (1 + 3))) := by decide

/-- FrameLineChecksInOrder: the range and the four last clauses, at the dlc and id boundaries. -/
theorem witness_FrameLineChecks_tail :
    (hexVal (byteAt [0x74, 0x38, 0x30, 0x30, 0x38] (1 + 3)) ≤ 8 ∧ idLimit false ≤ hexSum [0x38, 0x30, 0x30]) ∧
    (hexSum [0x37, 0x46, 0x46] < idLimit false ∧
      ([0x74, 0x37, 0x46, 0x46, 0x31, 0x30] : List Byte).length < frameLineLength 3 false 1) ∧
    frameLineLength 3 false 0 < ([0x74, 0x37, 0x46, 0x46, 0x30, 0x20] : List Byte).length ∧
    (([0x74, 0x37, 0x46, 0x46, 0x31, 0x5A, 0x5A] : List Byte).length = frameLineLength 3 false 1 ∧
      isHex (byteAt (([0x37, 0x46, 0x46, 0x31, 0x5A, 0x5A] : List Byte).drop (1 + 3)) 0) = false) ∧
    (([0x72, 0x37, 0x46, 0x46, 0x38] : List Byte).length = frameLineLength 3 true 8 ∧
      ∀ c ∈ ([0x37, 0x46, 0x46, 0x38] : List Byte).drop (1 + 3), isHex c = true) := by decide

/-- ControlLineDecoding: each clause, the digits next to the range included. -/
theorem witness_ControlLineDecoding :
    (0x4F, .openBus) ∈ bareControls ∧ ([0x20] : List Byte) ≠ [] ∧
    ((0x2F : Byte).toNat < 0x30) ∧ (0x38 < (0x39 : Byte).toNat) ∧ isTextOpcode 0x6F = false := by decide

/-- LineUnitsExecuteTheirLine, and `runsLine` both ways: EveryLineOneResponse, MalformedLineOnlyBells. -/
theorem witness_runsLine :
    decodeLine (0x78 :: []) = .ok (.slUnknown 0x78 []) ∧ runsLine (.slUnknown 0x78 []) [0x78] ∧
    runsLine (.execLine [0x78]) [0x78] ∧ (closed .text).cfg.proto = .text ∧
    decodeSlcan [0x78] = .err .unknownOpcode :=
  ⟨by decide, .inr (by decide), .inl rfl, rfl, by decide⟩

/-- FrameLineTransmits, each clause. -/
theorem witness_FrameLineTransmits :
    runsLine (.slDataStd [0x30, 0x30, 0x31, 0x30]) t0010 ∧ decodeSlcan t0010 = .ok (.frame f001) ∧
    ((openState .text).cfg.proto = .text ∧ (openState .text).busState = .opened) ∧
    (State.answersTx (openState .text) .ok).transmitAnswer = .ok ∧
    (State.answersTx (openState .text) .timeout).transmitAnswer ≠ .ok ∧ (closed .text).busState ≠ .opened :=
  ⟨.inr (by decide), by decide, by decide, by decide, by decide, by decide⟩

/-- OpenLineOpensTheBus, CloseLineClosesTheBus, VersionLineAnswers. -/
theorem witness_controlLines :
    (runsLine (.slOpen []) [0x4F] ∧ decodeSlcan [0x4F] = .ok (.control .openBus)) ∧
    (runsLine (.slClose []) [0x43] ∧ decodeSlcan [0x43] = .ok (.control .closeBus)) ∧
    (runsLine (.slVersionHw []) [0x56] ∧ decodeSlcan [0x56] = .ok (.control .versionHw)) ∧
    (runsLine (.slVersionSw []) [0x76] ∧ decodeSlcan [0x76] = .ok (.control .versionSw)) ∧
    (closed .text).cfg.proto = .text :=
  ⟨⟨.inr (by decide), by decide⟩, ⟨.inr (by decide), by decide⟩, ⟨.inr (by decide), by decide⟩,
    ⟨.inr (by decide), by decide⟩, rfl⟩

/-- BitrateLineSetsTheTiming: no timing under `Reject`; a native timing, while closed and while open; the downgrade. -/
theorem witness_BitrateLine :
    (runsLine (.slSetBitrate [0x37]) [0x53, 0x37] ∧ decodeSlcan [0x53, 0x37] = .ok (.control (.setBitrate 7))) ∧
    (timingEntry (cfgNo7 .reject) 7 = none ∧ (cfgNo7 .reject).fallback = .reject) ∧
    timingEntry (cfgOf .text) 7 = some (tt 7) ∧ (closed .text).busState = .closed ∧
    (openState .text).busState ≠ .closed ∧
    (timingEntry (cfgNo7 .legacyDowngrade) 7 = none ∧ (cfgNo7 .legacyDowngrade).fallback = .legacyDowngrade ∧ 6 < 7 ∧
      timingEntry (cfgNo7 .legacyDowngrade) 6 = some (tt 6)) ∧
    (∀ k, 6 < k → k < 7 → timingEntry (cfgNo7 .legacyDowngrade) k = none) :=
  ⟨⟨.inr (by decide), by decide⟩, by decide, by decide, by decide, by decide, by decide, fun k h1 h2 => by omega⟩

/-- BitrateLineSetsTheTiming: nothing at or below the code. -/
theorem witness_BitrateLine_none :
    timingEntry cfgOnly8 7 = none ∧ cfgOnly8.fallback = .legacyDowngrade ∧
    (∀ m : Fin 7, timingEntry cfgOnly8 m.val = none) ∧ cfgOnly8.proto = .text := by decide

/-- ResponseUnits, FrameByteBuffersOrExecutes, PacketLoop and the statements on one protocol: both protocols occur. -/
theorem witness_protocols : (closed .text).cfg.proto = .text ∧ (closed .binary).cfg.proto = .binary := by decide

set_option maxRecDepth 8192 in
/-- FrameByteBuffersOrExecutes, OverflowedLineRejected: 127 and 128 characters held; `witness_protocols` has both
protocols. -/
theorem witness_FrameByte :
    ({ closed .text with lb := t0010 }.lb ≠ [] ∧ (closed .text).lb = []) ∧
    ((0x30 : Byte) ≠ 0x0D#8 ∧ (0x30 : Byte) ≠ 0x0A#8) ∧
    { closed .text with lb := List.replicate 127 0x30 }.lb.length < 128 ∧
    128 ≤ { closed .text with lb := List.replicate 128 0x30 }.lb.length ∧
    { closed .text with lb := List.replicate 128 0x30 }.lb.length = 128 := by decide

/-- PacketLoop, PacketLeavesLessThanARecord: 16 bytes and 17 bytes. -/
theorem witness_PacketLoop :
    (closed .binary).cfg.proto = .binary ∧
    ((closed .binary).rb ++ b1.take 16).length < hfSize (closed .binary).cfg.hfLayout ∧
    hfSize (closed .binary).cfg.hfLayout ≤ ((closed .binary).rb ++ b1).length := by decide

/-- PacketGroupingHasNoEffect. -/
theorem witness_PacketGrouping : (nextOf (exec (.frmPacket (b1.take 3)) (closed .binary))).isSome := by decide

/-- BinaryRoundTrip, second part; DecHostframeReadsTheRecord, RecordTransmits. -/
theorem witness_records :
    b1.length = hfSize .packed17 ∧ hostframeWellformed b1 = true ∧ (closed .binary).cfg.hfLayout = .packed17 ∧
    (List.replicate 20 (0 : Byte)).length = hfSize .gsusb20 ∧
    hostframeWellformed (List.replicate 20 0) = true := by decide

/-- RecordTransmits, each clause, a malformed record among them. -/
theorem witness_RecordTransmits :
    (openState .binary).cfg.proto = .binary ∧ b6.length = hfSize (openState .binary).cfg.hfLayout ∧
    hostframeWellformed b6 = false ∧ (openState .binary).busState = .opened ∧
    (State.answersTx (openState .binary) .ok).transmitAnswer = .ok ∧
    (State.answersTx (openState .binary) .error).transmitAnswer ≠ .ok ∧ (closed .binary).busState ≠ .opened := by
  decide

/-- ConfigureRestartsTheInstance, each clause. -/
theorem witness_Configure :
    (State.answersOpen (openState .text) .fail .ok).installAnswer = .fail ∧
    ((State.answersOpen (openState .text) .ok .fail).installAnswer = .ok ∧
      (State.answersOpen (openState .text) .ok .fail).startAnswer = .fail) ∧
    ((State.answersOpen (openState .text) .ok .ok).installAnswer = .ok ∧
      (State.answersOpen (openState .text) .ok .ok).startAnswer = .ok) := by decide

/-- OpenConfiguresWithCurrentTiming, InvalidTimingNeverRead: both values of `BT_VALID`. -/
theorem witness_btValid : (closed .text).btValid = false ∧ (openState .text).btValid = true := by decide

/-- TransmitGate, BusOffReport, RecoveryStart, RecoveryDone, RecoveryTimeout, FatalErrorCloses, CheckRequestsRecovery,
RecoveryScenario: every bus state occurs, with and without a request. -/
theorem witness_busStates :
    (openState .text).busState = .opened ∧ (closed .text).busState = .closed ∧
    ((live .text .busOff).busState = .busOff ∧ (live .text .busOff).recReq = true) ∧
    (live .text .recovering).busState = .recovering ∧ (closed .text).recReq = false := by decide

/-- CheckRequestsRecovery, third clause; StickyFlagsStaySet, OutputsOnlyGrow, TransmitCalledOnlyWhenOpen: a next state. -/
theorem witness_next :
    (nextOf (exec .cmdCheck (live .text .busOff))).isSome ∧
    (nextOf (exec (.txGate f001) (openState .text))).isSome ∧
    { openState .text with warnFallback := true, hfDefect := true }.btValid = true := by decide

/-- OnlyTheseOperationsEnter: each of the five ways in. -/
theorem witness_enter :
    (nextOf (exec .evBusoff (openState .text))).map (fun t => t.busState) = some .busOff ∧
    (nextOf (exec .evRecTimeout (live .text .recovering))).map (fun t => t.busState) = some .busOff ∧
    (nextOf (exec .recStart (live .text .busOff))).map (fun t => t.busState) = some .recovering ∧
    (nextOf (exec .evRecDone (live .text .recovering))).map (fun t => t.busState) = some .opened ∧
    (nextOf (exec (.configure (tt 1)) (State.answersOpen (closed .text) .ok .ok))).map (fun t => t.busState) =
      some .opened := by decide

/-- OnlyTheseOperationsEnter, second clause: `BusOff` on request, these turns to come, the driver answering `ok`. -/
def retrying (ts : List Turn) : State :=
  { State.answersOpen (live .text .busOff) .ok .ok with turns := ts, lb := [0x4F], hinText := [cr] }

/-- A retry after the timeout (R213, R216). -/
def afterTimeout : State := retrying [.op .recStart, .op .evRecTimeout, .op .cmdCheck, .op .recStart]

/-- A new bus-off after a recovery (the program P3 of 95_test_vectors.md, steps 8 to 11). -/
def afterDone : State := retrying [.op .recStart, .op .evRecDone, .op .evBusoff, .op .recStart]

/-- A close, an open line and a new bus-off. -/
def afterConfigure : State := retrying [.op .recStart, .op .evFatal, .hrx, .op .evBusoff, .op .recStart]

/-- OnlyTheseOperationsEnter, second clause: runs with two calls of `initiate_recovery()`, in each of the three ways. -/
theorem witness_twoRecoveryCalls :
    (Run (runFrom afterTimeout) ∧ recoveryCallAt (runFrom afterTimeout) 0 ∧ recoveryCallAt (runFrom afterTimeout) 3) ∧
    (Run (runFrom afterDone) ∧ recoveryCallAt (runFrom afterDone) 0 ∧ recoveryCallAt (runFrom afterDone) 3) ∧
    (Run (runFrom afterConfigure) ∧ recoveryCallAt (runFrom afterConfigure) 0 ∧
      recoveryCallAt (runFrom afterConfigure) 4) := by
  refine ⟨⟨runFrom_run (k := 4) ?_ ?_ ?_, ?_⟩, ⟨runFrom_run (k := 4) ?_ ?_ ?_, ?_⟩,
    ⟨runFrom_run (k := 5) ?_ ?_ ?_, ?_⟩⟩ <;> first | decide | (unfold recoveryCallAt takesAt; decide)

/-- OnlyTheseOperationsEnter, second clause: what lies between the two calls in each of these runs. -/
theorem witness_betweenRecoveryCalls :
    takesAt (runFrom afterTimeout) 1 (.op .evRecTimeout) ∧
    (takesAt (runFrom afterDone) 1 (.op .evRecDone) ∧ busOffAt (runFrom afterDone) 2) ∧
    (configuredAt (runFrom afterConfigure) 2 ∧ busOffAt (runFrom afterConfigure) 3) :=
  ⟨by unfold takesAt; decide, by unfold busOffAt takesAt; decide, ⟨by decide, tt 6, by decide⟩,
    by unfold busOffAt takesAt; decide⟩

/-- EveryCommandOneResponse, in both protocols. -/
theorem witness_EveryCommand :
    (let s := { closed .binary with turns := [.ctl, .hrx], cin := [.modeStart, .other] }
     s.turns = .ctl :: [.hrx] ∧ s.cin = .modeStart :: [.other] ∧ s.cfg.proto = .binary) ∧
    (let s := { closed .text with turns := [.ctl], cin := [.other] }
     s.turns = .ctl :: [] ∧ s.cin = .other :: [] ∧ s.cfg.proto = .text) := by decide

set_option maxRecDepth 8192 in
/-- DropCountersCountDrops: each counter counts, and a full queue. -/
theorem witness_DropCounters :
    (nextOf (exec (.evBusRx r123) { openState .text with oq := List.replicate 128 [0x0D] })).map
      (fun t => t.rxDropCnt) = some 1 ∧
    (nextOf (exec (.execLine t0010) (closed .text))).map (fun t => t.txDropCnt) = some 1 := by decide

set_option maxRecDepth 8192 in
/-- BusFrameQueuedOrCounted, QueueIsFifo: 127 and 128 units waiting, in both protocols and in `Closed`. -/
theorem witness_BusFrame :
    (openState .text).busState ≠ .closed ∧ (openState .binary).busState ≠ .closed ∧
    { openState .text with oq := List.replicate 127 [0x0D] }.oq.length < 128 ∧
    128 ≤ { openState .text with oq := List.replicate 128 [0x0D] }.oq.length ∧ (closed .text).busState = .closed := by
  decide

/-- WriterMovesTheHead. -/
theorem witness_Writer : { closed .text with oq := [[1], [2]] }.oq = [1] :: [[2]] ∧ (closed .text).oq = [] := by decide

/-- TokensAreUnambiguous: units of each kind on `HOUT` of a state of the invariant. -/
theorem witness_Tokens :
    Inv { busy with hout := [[0x0D], [0x07], encodeSlcan f001, versionUnit (cfgOf .text).verHw] } ∧
    [0x0D] ∈ { busy with hout := [[0x0D], [0x07], encodeSlcan f001, versionUnit (cfgOf .text).verHw] }.hout :=
  ⟨{ witness_Inv with
      houtUnits := by
        intro u hu
        simp only [List.mem_cons, List.not_mem_nil, or_false] at hu
        rcases hu with rfl | rfl | rfl | rfl
        · exact .inr ⟨rfl, .inl rfl⟩
        · exact .inr ⟨rfl, .inr (.inl rfl)⟩
        · exact .inl ⟨f001, by decide, rfl⟩
        · exact .inr ⟨rfl, .inr (.inr (.inl rfl))⟩ }, by decide⟩

end Sys2Proof.Tests
end

/-! PROOFS. Scope (00_scope.md): no step changes a parameter, and what every turn runs. First the rules of the shared
operations that both need, then the step by its kinds of turn. -/

namespace Sys2Proof.Machine

/-! ### Enabling conditions, where they are met -/

theorem whenText_of_text {s : State} (h : s.cfg.proto = .text) (t : State) : whenText s t = .next t := by
  simp [whenText, stepWhen, h]

theorem whenBinary_of_binary {s : State} (h : s.cfg.proto = .binary) (t : State) : whenBinary s t = .next t := by
  simp [whenBinary, stepWhen, h]

/-! ### The shared operations keep the parameters -/

@[simp] theorem closeInstance_cfg (s : State) : (closeInstance s).cfg = s.cfg := by rw [closeInstance_eq]

@[simp] theorem configure_cfg (t : BitTiming) (s : State) : (configure t s).2.cfg = s.cfg := by rw [configure_frame]

@[simp] theorem cmdClose_cfg (s : State) : (cmdClose s).cfg = s.cfg := by rw [cmdClose_eq]

@[simp] theorem cmdOpen_cfg (s : State) : (cmdOpen s).2.cfg = s.cfg := by rw [cmdOpen_frame]

@[simp] theorem txGate_cfg (f : CanFrame) (s : State) : (txGate f s).2.cfg = s.cfg := by rw [txGate_frame]

@[simp] theorem runLine_cfg (r : ParseResult) (s : State) : (runLine r s).cfg = s.cfg := (runDecoded_spec r s).1.cfg

@[simp] theorem runRecord_cfg (bytes : List Byte) (s : State) : (runRecord bytes s).cfg = s.cfg := by
  rw [runRecord_frame]

@[simp] theorem frameByte_cfg (b : Byte) (s : State) : (frameByte b s).cfg = s.cfg := by
  unfold frameByte
  split_ifs
  · rfl
  · exact runLine_cfg _ _
  · rfl
  · rfl

@[simp] theorem extractRecords_cfg (fuel : Nat) (s : State) : (extractRecords fuel s).cfg = s.cfg := by
  induction fuel generalizing s with
  | zero => rfl
  | succ fuel ih =>
    unfold extractRecords
    split_ifs
    · rfl
    · rw [ih, runRecord_cfg]

@[simp] theorem framePacket_cfg (p : List Byte) (s : State) : (framePacket p s).cfg = s.cfg :=
  extractRecords_cfg _ _

/-! ### Every instruction keeps the parameters -/

/-- Where the result is a next state, its parameters are those of `s`. -/
def KeepsCfg (s : State) (r : Result) : Prop := ∀ t : State, r = .next t → t.cfg = s.cfg

theorem KeepsCfg.next {s t : State} (h : t.cfg = s.cfg) : KeepsCfg s (.next t) := by
  rintro _ ⟨⟩
  exact h

theorem KeepsCfg.fault (s : State) (f : Fault) : KeepsCfg s (.fault f) := by rintro _ ⟨⟩

theorem KeepsCfg.stepWhen {s t : State} (e : Bool) (why : Fault) (h : t.cfg = s.cfg) :
    KeepsCfg s (stepWhen e why t) := by
  cases e
  · exact .fault s why
  · exact .next h

theorem KeepsCfg.whenText {s t : State} (h : t.cfg = s.cfg) : KeepsCfg s (whenText s t) := .stepWhen _ _ h

theorem KeepsCfg.whenBinary {s t : State} (h : t.cfg = s.cfg) : KeepsCfg s (whenBinary s t) := .stepWhen _ _ h

theorem KeepsCfg.onRecord {s : State} {r : Result} (bytes : List Byte) (h : KeepsCfg s r) :
    KeepsCfg s (onRecord bytes s r) := by
  unfold Machine.onRecord
  split_ifs
  · exact h
  · rintro _ ⟨⟩

theorem exec_keepsCfg (i : Instr) (s : State) : KeepsCfg s (exec i s) := by
  cases i with
  | slDataStd _ | slDataExt _ | slRemoteStd _ | slRemoteExt _ | slOpen _ | slClose _ | slSetBitrate _ | slVersionHw _
  | slVersionSw _ | slUnknown _ _ | execLine _ => exact .whenText (runLine_cfg _ _)
  | ack | nak | verHw | verSw => exact .whenText rfl
  | frmByte b => exact .whenText (frameByte_cfg b s)
  | decHostframe bytes => exact .onRecord bytes (.next rfl)
  | execRecord bytes => exact .onRecord bytes (.whenBinary (runRecord_cfg bytes s))
  | frmPacket p => exact .whenBinary (framePacket_cfg p s)
  | hostFormat _ | setBittiming _ | btConst | deviceConfig | ctlOther => exact .whenBinary rfl
  | modeStart => exact .whenBinary (cmdOpen_cfg s)
  | modeStop => exact .whenBinary (cmdClose_cfg s)
  | encHostframe _ _ | encSlcan _ => exact .next rfl
  | configure t => exact .next (configure_cfg t s)
  | cmdClose => exact .next (cmdClose_cfg s)
  | cmdOpen => exact .next (cmdOpen_cfg s)
  | txGate f => exact .next (txGate_cfg f s)
  | recStart | evRecTimeout => exact .stepWhen _ _ rfl
  | evBusoff | evRecDone | cmdCheck => exact .next (by split_ifs <;> rfl)
  | evFatal => exact .next (by split_ifs <;> simp)
  | evBusRx _ => exact .stepWhen _ _ (by split_ifs <;> rfl)
  | htxPop =>
    change KeepsCfg s (execHtxPop s)
    unfold execHtxPop
    split
    · exact .fault s _
    · exact .next rfl

/-- Settles O4: a step idles, lets its turn pass, or is one instruction, and every instruction keeps the parameters. -/
theorem stepKeepsConfiguration : Obligations.StepKeepsConfiguration := by
  intro s t h
  obtain ⟨-, rfl⟩ | ⟨_, _, s1, -, hs1, hrun⟩ := step_cases h
  · rfl
  · have hcfg : s1.cfg = s.cfg := by rw [hs1]
    obtain rfl | ⟨i, -, hexec⟩ := hrun
    · exact hcfg
    · exact (exec_keepsCfg i s1 t hexec).trans hcfg

/-! ### What a turn fetches -/

theorem fetchTurn_hrx_byte {s : State} {b : Byte} {bs : List Byte} (hp : s.cfg.proto = .text)
    (hin : s.hinText = b :: bs) : fetchTurn .hrx s = some (.frmByte b, { s with hinText := bs }) := by
  simp [fetchTurn, hp, hin]

theorem fetchTurn_hrx_noByte {s : State} (hp : s.cfg.proto = .text) (hin : s.hinText = []) :
    fetchTurn .hrx s = none := by
  simp [fetchTurn, hp, hin]

theorem fetchTurn_hrx_packet {s : State} {es ps : List (List Byte)} {p : List Byte} (hp : s.cfg.proto = .binary)
    (hes : ∀ e ∈ es, e = []) (hne : p ≠ []) (hin : s.hinBin = es ++ p :: ps) :
    fetchTurn .hrx s = some (.frmPacket p, { s with hinBin := ps }) := by
  have hdrop : s.hinBin.dropWhile List.isEmpty = p :: ps := by
    rw [hin, List.dropWhile_append_of_pos (by simpa using hes), List.dropWhile_cons_of_neg (by simpa using hne)]
  simp [fetchTurn, hp, hdrop]

theorem fetchTurn_hrx_noPacket {s : State} (hp : s.cfg.proto = .binary) (hin : ∀ e ∈ s.hinBin, e = []) :
    fetchTurn .hrx s = none := by
  have hdrop : s.hinBin.dropWhile List.isEmpty = [] := List.dropWhile_eq_nil_iff.2 (by simpa using hin)
  simp [fetchTurn, hp, hdrop]

theorem fetchTurn_ctl_command {s : State} {c : CtlCmd} {cs : List CtlCmd} (hp : s.cfg.proto = .binary)
    (hin : s.cin = c :: cs) : fetchTurn .ctl s = some (ctlInstr c, { s with cin := cs }) := by
  simp [fetchTurn, hp, hin]

theorem fetchTurn_ctl_none {s : State} (h : s.cfg.proto = .text ∨ s.cin = []) : fetchTurn .ctl s = none := by
  obtain hp | hin := h
  · simp [fetchTurn, hp]
  · simp [fetchTurn, hin]

/-! ### The step, by what its turn fetches -/

section
variable {s s1 : State} {t : Turn} {rest : List Turn} {i : Instr}

theorem step_noTurn (ht : s.turns = []) : step s = .next s := by simp [step, ht]

/-- With no unit to take the turn passes. -/
theorem step_fetchNone (ht : s.turns = t :: rest) (hf : fetchTurn t (s.beginTurn rest) = none) :
    step s = .next (s.beginTurn rest) := by
  simp [step, ht, hf]

theorem step_fetchSome (ht : s.turns = t :: rest) (hf : fetchTurn t (s.beginTurn rest) = some (i, s1))
    (hw : i.wellFormed = true) : step s = passUnlessEnabled s1 (exec i s1) := by
  simp [step, ht, hf, hw]

/-- A completing step is the execution of what its turn fetches. -/
theorem step_eq_exec (ht : s.turns = t :: rest) (hf : fetchTurn t (s.beginTurn rest) = some (i, s1))
    (hw : i.wellFormed = true) (hc : ∃ u, exec i s1 = .next u) : step s = exec i s1 := by
  obtain ⟨u, hu⟩ := hc
  rw [step_fetchSome ht hf hw, hu]
  rfl

theorem step_illFormed (ht : s.turns = .op i :: rest) (hw : i.wellFormed = false) : step s = .refused .illFormed := by
  simp [step, ht, fetchTurn, hw]

end

theorem wellFormed_ctlInstr (c : CtlCmd) : (ctlInstr c).wellFormed = true := by cases c <;> rfl

/-- In Binary every control command completes (44_dispatch_and_forwarding.md R252). -/
theorem exec_ctlInstr_completes (c : CtlCmd) {s : State} (h : s.cfg.proto = .binary) :
    ∃ u, exec (ctlInstr c) s = .next u := by
  cases c <;> exact ⟨_, whenBinary_of_binary h _⟩

/-- Settles O6, clause by clause from what the turn fetches; what `HRX` and `CTL` fetch is always enabled. -/
theorem stepRunsTheTurn : Obligations.StepRunsTheTurn := by
  intro s rest
  refine ⟨step_noTurn, ?byte, ?noByte, ?packet, ?noPacket, ?command, ?noCommand, ?completes, ?faults,
    ?refused, ?illFormed⟩
  case byte =>
    intro b bs ht hp hin
    exact step_eq_exec ht (fetchTurn_hrx_byte hp hin) rfl ⟨_, whenText_of_text hp _⟩
  case noByte => exact fun ht hp hin => step_fetchNone ht (fetchTurn_hrx_noByte hp hin)
  case packet =>
    intro es p ps ht hp hes hne hin
    have hw : (Instr.frmPacket p).wellFormed = true := decide_eq_true (List.length_pos_of_ne_nil hne)
    exact step_eq_exec ht (fetchTurn_hrx_packet hp hes hne hin) hw ⟨_, whenBinary_of_binary hp _⟩
  case noPacket => exact fun ht hp hin => step_fetchNone ht (fetchTurn_hrx_noPacket hp hin)
  case command =>
    intro c cs ht hp hin
    exact step_eq_exec ht (fetchTurn_ctl_command hp hin) (wellFormed_ctlInstr c) (exec_ctlInstr_completes c hp)
  case noCommand => exact fun ht h => step_fetchNone ht (fetchTurn_ctl_none h)
  case completes => exact fun i ht hw t he => step_op ht hw he
  case faults =>
    intro i ht hw f he
    exact (step_fetchSome ht rfl hw).trans (congrArg (passUnlessEnabled _) he)
  case refused =>
    intro i ht hw r he
    exact (step_fetchSome ht rfl hw).trans (congrArg (passUnlessEnabled _) he)
  case illFormed => exact fun i ht hw => step_illFormed ht hw

end Sys2Proof.Machine

/-! PROOFS. State (10_state.md): `BT` is not read while it is invalid, flags stay set, outputs grow, the drop counters
and `OQ`, and the frames a text decode gives. For each first what the shared operations do, then every instruction, then
runs. -/

namespace Sys2Proof.Machine

/-! ### The shared operations, case by case -/

section
variable {f : CanFrame} {s : State}

theorem runFrame_sent (h : (txGate f s).1 = .ok) : runFrame f s = (txGate f s).2.emit ackUnit := if_pos h

theorem runFrame_refused (h : (txGate f s).1 ≠ .ok) : runFrame f s = (txGate f s).2.countTxDrop.emit nakUnit := if_neg h

theorem applyTiming_closed (t : BitTiming) (h : s.busState = .closed) :
    applyTiming t s = (s.writeTiming t).emit ackUnit := if_pos h

theorem applyTiming_running (t : BitTiming) (h : s.busState ≠ .closed) :
    applyTiming t s = (configure t (s.writeTiming t)).2.emit (ctlToken (configure t (s.writeTiming t)).1) := if_neg h

theorem execHtxPop_nil (h : s.oq = []) : execHtxPop s = .fault .queueEmpty := by
  simp [execHtxPop, h]

theorem execHtxPop_cons {u : List Byte} {rest : List (List Byte)} (h : s.oq = u :: rest) :
    execHtxPop s = .next (State.emit { s with oq := rest } u) := by
  simp [execHtxPop, h]

end

/-- A bitrate line is refused, or a timing is applied, with or without the fallback's warning. -/
theorem runSetBitrate_cases (n : Fin 9) (s : State) :
    runSetBitrate n s = s.emit nakUnit ∨
      ∃ t, runSetBitrate n s = applyTiming t s ∨ runSetBitrate n s = applyTiming t s.setWarn := by
  unfold runSetBitrate
  rcases timingFor s.cfg n.val with _ | ⟨t, _ | _⟩
  · exact .inl rfl
  · exact .inr ⟨t, .inl rfl⟩
  · exact .inr ⟨t, .inr rfl⟩

/-- A byte is dropped, completes the line, or is kept. -/
theorem frameByte_cases (b : Byte) (s : State) :
    frameByte b s = s ∨ frameByte b s = runLine (decodeSlcan s.lb) { s with lb := [] } ∨
      frameByte b s = { s with lb := s.lb ++ [b] } := by
  unfold frameByte
  split_ifs
  · exact .inl rfl
  · exact .inr (.inl rfl)
  · exact .inr (.inr rfl)
  · exact .inl rfl

/-- The framer loop touches only `RB` and what a record touches. -/
theorem extractRecords_frame (fuel : Nat) (s : State) :
    extractRecords fuel s = { s with
      rb := (extractRecords fuel s).rb, drvLog := (extractRecords fuel s).drvLog
      ansTransmit := (extractRecords fuel s).ansTransmit, txDropCnt := (extractRecords fuel s).txDropCnt
      hfDefect := (extractRecords fuel s).hfDefect } := by
  induction fuel generalizing s with
  | zero => rfl
  | succ fuel ih =>
    unfold extractRecords
    split_ifs
    · rfl
    · rw [ih, runRecord_frame]

theorem framePacket_frame (p : List Byte) (s : State) :
    framePacket p s = { s with
      rb := (framePacket p s).rb, drvLog := (framePacket p s).drvLog, ansTransmit := (framePacket p s).ansTransmit
      txDropCnt := (framePacket p s).txDropCnt, hfDefect := (framePacket p s).hfDefect } :=
  extractRecords_frame _ _

/-! ### Two states that differ only in `BT` -/

/-- `s` with another value in `BT`, valid or not as before. -/
def State.withBt (s : State) (x : BitTiming) : State := { s with bt := x }

@[simp] theorem State.withBt_cfg (s : State) (x : BitTiming) : (s.withBt x).cfg = s.cfg := rfl
@[simp] theorem State.withBt_lb (s : State) (x : BitTiming) : (s.withBt x).lb = s.lb := rfl
@[simp] theorem State.withBt_rb (s : State) (x : BitTiming) : (s.withBt x).rb = s.rb := rfl
@[simp] theorem State.withBt_btValid (s : State) (x : BitTiming) : (s.withBt x).btValid = s.btValid := rfl
@[simp] theorem State.withBt_installAnswer (s : State) (x : BitTiming) :
    (s.withBt x).installAnswer = s.installAnswer := rfl
@[simp] theorem State.withBt_startAnswer (s : State) (x : BitTiming) : (s.withBt x).startAnswer = s.startAnswer := rfl

/-- `s` with `x` in `BT` where `BT_VALID = 0`: what is left of the difference once `BT` may have been written. -/
def State.withInvalidBt (s : State) (x : BitTiming) : State := if s.btValid then s else s.withBt x

theorem eq_withInvalidBt {t t' : State} {x : BitTiming} (h : t.btValid = false) (ht : t' = t.withBt x) :
    t' = t.withInvalidBt x := by
  rw [ht, State.withInvalidBt, h]
  rfl

theorem State.withInvalidBt_of_valid {s : State} (h : s.btValid = true) (x : BitTiming) : s.withInvalidBt x = s := by
  simp [withInvalidBt, h]

theorem State.setRet_withInvalidBt (s : State) (x : BitTiming) (r : Ret) :
    (s.withInvalidBt x).setRet r = (s.setRet r).withInvalidBt x := apply_ite (State.setRet · r) _ _ _

theorem ite_withInvalidBt {c : Prop} [Decidable c] {t t' u u' : State} {x : BitTiming} (ht : t' = t.withInvalidBt x)
    (hu : u' = u.withInvalidBt x) : (if c then t' else u') = (if c then t else u).withInvalidBt x := by
  split_ifs
  · exact ht
  · exact hu

/-! ### The shared operations on `BT` and `BT_VALID` -/

@[simp] theorem configure_btValid (t : BitTiming) (s : State) : (configure t s).2.btValid = s.btValid := by
  rw [configure_frame]

@[simp] theorem cmdClose_btValid (s : State) : (cmdClose s).btValid = s.btValid := by rw [cmdClose_eq]

@[simp] theorem cmdOpen_btValid (s : State) : (cmdOpen s).2.btValid = s.btValid := by rw [cmdOpen_frame]

@[simp] theorem txGate_btValid (f : CanFrame) (s : State) : (txGate f s).2.btValid = s.btValid := by rw [txGate_frame]

@[simp] theorem runRecord_btValid (bytes : List Byte) (s : State) : (runRecord bytes s).btValid = s.btValid := by
  rw [runRecord_frame]

@[simp] theorem runFrame_btValid (f : CanFrame) (s : State) : (runFrame f s).btValid = s.btValid := by
  by_cases h : (txGate f s).1 = .ok
  · rw [runFrame_sent h]
    exact txGate_btValid f s
  · rw [runFrame_refused h]
    simp

/-- Storing a timing makes `BT` valid, and it stays so where the timing is made effective. -/
@[simp] theorem applyTiming_btValid (t : BitTiming) (s : State) : (applyTiming t s).btValid = true := by
  by_cases h : s.busState = .closed
  · rw [applyTiming_closed t h]
    rfl
  · rw [applyTiming_running t h]
    exact configure_btValid t (s.writeTiming t)

@[simp] theorem framePacket_btValid (p : List Byte) (s : State) : (framePacket p s).btValid = s.btValid := by
  rw [framePacket_frame]

theorem cmdClose_withBt (s : State) (x : BitTiming) : cmdClose (s.withBt x) = (cmdClose s).withBt x := by
  rw [cmdClose_eq, cmdClose_eq]
  rfl

/-- Configuring takes its timing as an operand and does not look at `BT`. -/
theorem configure_withBt (t : BitTiming) (s : State) (x : BitTiming) :
    configure t (s.withBt x) = ((configure t s).1, (configure t s).2.withBt x) := by
  rw [configure_eq, configure_eq, State.withBt_installAnswer, State.withBt_startAnswer]
  cases s.installAnswer <;> cases s.startAnswer <;> rfl

/-- The one operation that reads `BT` reads `BT_VALID` first. -/
theorem cmdOpen_withBt {s : State} (h : s.btValid = false) (x : BitTiming) :
    cmdOpen (s.withBt x) = ((cmdOpen s).1, (cmdOpen s).2.withBt x) := by
  simp only [cmdOpen, State.withBt_btValid, h]
  rfl

theorem txGate_withBt (f : CanFrame) (s : State) (x : BitTiming) :
    txGate f (s.withBt x) = ((txGate f s).1, (txGate f s).2.withBt x) := by
  by_cases h : s.busState = .opened
  · rw [txGate_opened f h, txGate_opened f (s := s.withBt x) h]; rfl
  · rw [txGate_notOpen f h, txGate_notOpen f (s := s.withBt x) h]

theorem runFrame_withBt (f : CanFrame) (s : State) (x : BitTiming) :
    runFrame f (s.withBt x) = (runFrame f s).withBt x := by
  unfold runFrame
  rw [txGate_withBt]
  dsimp only
  split_ifs <;> rfl

theorem runRecord_withBt (bytes : List Byte) (s : State) (x : BitTiming) :
    runRecord bytes (s.withBt x) = (runRecord bytes s).withBt x := by
  rw [runRecord_eq, runRecord_eq]
  rfl

theorem extractRecords_withBt (fuel : Nat) (s : State) (x : BitTiming) :
    extractRecords fuel (s.withBt x) = (extractRecords fuel s).withBt x := by
  induction fuel generalizing s with
  | zero => rfl
  | succ fuel ih =>
    unfold extractRecords
    rw [State.withBt_rb, State.withBt_cfg]
    split_ifs
    · rfl
    · exact (congrArg (extractRecords fuel)
        (runRecord_withBt _ { s with rb := s.rb.drop (hfSize s.cfg.hfLayout) } x)).trans (ih _)

theorem framePacket_withBt (p : List Byte) (s : State) (x : BitTiming) :
    framePacket p (s.withBt x) = (framePacket p s).withBt x :=
  extractRecords_withBt _ { s with rb := s.rb ++ p } x

/-- A bitrate line writes `BT` before anything reads it, or leaves it alone. -/
theorem runSetBitrate_withBt (n : Fin 9) {s : State} (h : s.btValid = false) (x : BitTiming) :
    runSetBitrate n (s.withBt x) = (runSetBitrate n s).withInvalidBt x := by
  unfold runSetBitrate
  rw [State.withBt_cfg]
  rcases timingFor s.cfg n.val with _ | ⟨t, _ | _⟩
  · exact eq_withInvalidBt h rfl
  · exact (State.withInvalidBt_of_valid (applyTiming_btValid t s) x).symm
  · exact (State.withInvalidBt_of_valid (applyTiming_btValid t s.setWarn) x).symm

theorem runDecoded_withBt (r : ParseResult) {s : State} (h : s.btValid = false) (x : BitTiming) :
    runDecoded r (s.withBt x) = (runDecoded r s).withInvalidBt x := by
  match r with
  | .err _ | .ok (.control .versionHw) | .ok (.control .versionSw) => exact eq_withInvalidBt h rfl
  | .ok (.frame f) => exact eq_withInvalidBt ((runFrame_btValid f s).trans h) (runFrame_withBt f s x)
  | .ok (.control .openBus) =>
    exact eq_withInvalidBt ((cmdOpen_btValid s).trans h)
      (congrArg (fun r => r.2.emit (ctlToken r.1)) (cmdOpen_withBt h x))
  | .ok (.control .closeBus) =>
    exact eq_withInvalidBt ((cmdClose_btValid s).trans h) (congrArg (·.emit ackUnit) (cmdClose_withBt s x))
  | .ok (.control (.setBitrate n)) => exact runSetBitrate_withBt n h x

theorem runLine_withBt (r : ParseResult) {s : State} (h : s.btValid = false) (x : BitTiming) :
    runLine r (s.withBt x) = (runLine r s).withInvalidBt x := by
  rw [runLine, runDecoded_withBt r h, runLine, State.setRet_withInvalidBt]

theorem frameByte_withBt (b : Byte) {s : State} (h : s.btValid = false) (x : BitTiming) :
    frameByte b (s.withBt x) = (frameByte b s).withInvalidBt x := by
  unfold frameByte
  rw [State.withBt_lb]
  split_ifs
  · exact eq_withInvalidBt h rfl
  · exact runLine_withBt (decodeSlcan s.lb) (s := { s with lb := [] }) h x
  · exact eq_withInvalidBt h rfl
  · exact eq_withInvalidBt h rfl

/-! ### No instruction reads an invalid `BT` -/

/-- The result, with `g` applied to its next state. -/
def mapNext (g : State → State) : Result → Result
  | .next t => .next (g t)
  | .fault why => .fault why
  | .refused why => .refused why

theorem mapNext_stepWhen (g : State → State) (e : Bool) (why : Fault) (t : State) :
    mapNext g (stepWhen e why t) = stepWhen e why (g t) := by
  cases e <;> rfl

theorem mapNext_onRecord (g : State → State) (bytes : List Byte) (s : State) (r : Result) :
    mapNext g (onRecord bytes s r) = onRecord bytes s (mapNext g r) := by
  unfold onRecord
  split_ifs <;> rfl

/-- The result `r'` is `r` but for `x` in `BT` where that is still invalid. -/
def DiffersInInvalidBt (x : BitTiming) (r r' : Result) : Prop := r' = mapNext (·.withInvalidBt x) r

namespace DiffersInInvalidBt
variable {x : BitTiming} {s t t' : State} {r r' : Result}

theorem next (h : t' = t.withInvalidBt x) : DiffersInInvalidBt x (.next t) (.next t') := congrArg _ h

theorem stepWhen {e : Bool} {why : Fault} (h : t' = t.withInvalidBt x) :
    DiffersInInvalidBt x (stepWhen e why t) (stepWhen e why t') := by
  rw [DiffersInInvalidBt, mapNext_stepWhen, h]

theorem whenText (h : t' = t.withInvalidBt x) :
    DiffersInInvalidBt x (whenText s t) (whenText (s.withBt x) t') := stepWhen h

theorem whenBinary (h : t' = t.withInvalidBt x) :
    DiffersInInvalidBt x (whenBinary s t) (whenBinary (s.withBt x) t') := stepWhen h

theorem onRecord {bytes : List Byte} (h : DiffersInInvalidBt x r r') :
    DiffersInInvalidBt x (onRecord bytes s r) (onRecord bytes (s.withBt x) r') := by
  rw [DiffersInInvalidBt, mapNext_onRecord, ← h]
  rfl

end DiffersInInvalidBt

/-- Every instruction goes alike whatever the invalid `BT` holds. -/
theorem exec_withBt (i : Instr) {s : State} (h : s.btValid = false) (x : BitTiming) :
    DiffersInInvalidBt x (exec i s) (exec i (s.withBt x)) := by
  cases i with
  | slDataStd _ | slDataExt _ | slRemoteStd _ | slRemoteExt _ | slOpen _ | slClose _ | slSetBitrate _ | slVersionHw _
  | slVersionSw _ | slUnknown _ _ | execLine _ => exact .whenText (runLine_withBt _ h x)
  | frmByte b => exact .whenText (frameByte_withBt b h x)
  | ack | nak | verHw | verSw => exact .whenText (eq_withInvalidBt h rfl)
  | decHostframe bytes => exact .onRecord (.next (eq_withInvalidBt h rfl))
  | encHostframe _ _ | encSlcan _ => exact .next (eq_withInvalidBt h rfl)
  | execRecord bytes =>
    exact .onRecord (.whenBinary (eq_withInvalidBt ((runRecord_btValid bytes s).trans h) (runRecord_withBt bytes s x)))
  | frmPacket p =>
    exact .whenBinary (eq_withInvalidBt ((framePacket_btValid p s).trans h) (framePacket_withBt p s x))
  | hostFormat _ | btConst | deviceConfig | ctlOther => exact .whenBinary (eq_withInvalidBt h rfl)
  | setBittiming t => exact .whenBinary rfl
  | modeStart =>
    exact .whenBinary (eq_withInvalidBt ((cmdOpen_btValid s).trans h)
      (congrArg (fun r => r.2.respond (ctlResp r.1)) (cmdOpen_withBt h x)))
  | modeStop =>
    exact .whenBinary (eq_withInvalidBt ((cmdClose_btValid s).trans h)
      (congrArg (·.respond .ack) (cmdClose_withBt s x)))
  | configure t =>
    exact .next (eq_withInvalidBt ((configure_btValid t s).trans h)
      (congrArg (fun r => r.2.setRet (.ctl r.1)) (configure_withBt t s x)))
  | cmdClose =>
    exact .next (eq_withInvalidBt ((cmdClose_btValid s).trans h)
      (congrArg (·.setRet (.ctl .ok)) (cmdClose_withBt s x)))
  | cmdOpen =>
    exact .next (eq_withInvalidBt ((cmdOpen_btValid s).trans h)
      (congrArg (fun r => r.2.setRet (.ctl r.1)) (cmdOpen_withBt h x)))
  | txGate f =>
    exact .next (eq_withInvalidBt ((txGate_btValid f s).trans h)
      (congrArg (fun r => r.2.setRet (.tx r.1)) (txGate_withBt f s x)))
  | recStart | evRecTimeout => exact .stepWhen (eq_withInvalidBt h rfl)
  | evBusoff | evRecDone | cmdCheck =>
    exact .next (ite_withInvalidBt (eq_withInvalidBt h rfl) (eq_withInvalidBt h rfl))
  | evFatal =>
    exact .next (ite_withInvalidBt (eq_withInvalidBt h rfl) (eq_withInvalidBt ((cmdClose_btValid s).trans h)
      (congrArg (·.raiseCtrl .fatal) (cmdClose_withBt s x))))
  | evBusRx f =>
    exact .stepWhen (ite_withInvalidBt (eq_withInvalidBt h rfl) (eq_withInvalidBt h rfl))
  | htxPop =>
    change DiffersInInvalidBt x (execHtxPop s) (execHtxPop (s.withBt x))
    cases hq : s.oq with
    | nil =>
      rw [execHtxPop_nil hq, execHtxPop_nil (s := s.withBt x) hq]
      rfl
    | cons u rest =>
      rw [execHtxPop_cons hq, execHtxPop_cons (s := s.withBt x) hq]
      exact .next (eq_withInvalidBt h rfl)

/-- Settles O47: `CMD_OPEN` is what reads `BT`, and it reads `BT_VALID` first. -/
theorem invalidTimingNeverRead : Obligations.InvalidTimingNeverRead := by
  intro i s x h
  refine (exec_withBt i h x).trans ?_
  cases exec i s <;> rfl

/-! ### What holds after an instruction that completes -/

/-- Where the result is a next state, `P` holds of it (`KeepsCfg s` is the case where `P` compares the parameters). -/
def OnNext (P : State → Prop) (r : Result) : Prop := ∀ t : State, r = .next t → P t

namespace OnNext
variable {P : State → Prop} {s t : State} {r : Result}

theorem next (h : P t) : OnNext P (.next t) := by
  rintro _ ⟨⟩
  exact h

theorem fault (why : Fault) : OnNext P (.fault why) := by rintro _ ⟨⟩

theorem stepWhen {e : Bool} {why : Fault} (h : P t) : OnNext P (stepWhen e why t) := by
  cases e
  · exact fault why
  · exact next h

theorem whenText (h : P t) : OnNext P (whenText s t) := stepWhen h

theorem whenBinary (h : P t) : OnNext P (whenBinary s t) := stepWhen h

theorem onRecord {bytes : List Byte} (h : OnNext P r) : OnNext P (onRecord bytes s r) := by
  unfold Machine.onRecord
  split_ifs
  · exact h
  · rintro _ ⟨⟩

theorem htxPop (h : ∀ u rest, s.oq = u :: rest → P (State.emit { s with oq := rest } u)) : OnNext P (execHtxPop s) := by
  cases hq : s.oq with
  | nil => rw [execHtxPop_nil hq]; exact fault _
  | cons u rest => rw [execHtxPop_cons hq]; exact next (h u rest hq)

end OnNext

/-! ### Flags that only reset clears, outputs that only grow -/

/-- From `s` to `t` no flag of 10_state.md R33, R38, R47 is cleared and no output of R43, R44 is taken back. -/
structure Grows (s t : State) : Prop where
  btValid : s.btValid = true → t.btValid = true
  warnFallback : s.warnFallback = true → t.warnFallback = true
  hfDefect : s.hfDefect = true → t.hfDefect = true
  hout : s.hout <+: t.hout
  cout : s.cout <+: t.cout
  drvLog : s.drvLog <+: t.drvLog

namespace Grows
variable {s t u : State}

theorem refl (s : State) : Grows s s := ⟨id, id, id, ⟨[], by simp⟩, ⟨[], by simp⟩, ⟨[], by simp⟩⟩

theorem trans (h : Grows s t) (h' : Grows t u) : Grows s u :=
  ⟨h'.btValid ∘ h.btValid, h'.warnFallback ∘ h.warnFallback, h'.hfDefect ∘ h.hfDefect, h.hout.trans h'.hout,
    h.cout.trans h'.cout, h.drvLog.trans h'.drvLog⟩

theorem emit (s : State) (u : List Byte) : Grows s (s.emit u) := { refl s with hout := ⟨[u], rfl⟩ }

theorem respond (s : State) (r : CtlResp) : Grows s (s.respond r) := { refl s with cout := ⟨[r], rfl⟩ }

theorem call (s : State) (c : DrvCall) : Grows s (s.call c) := { refl s with drvLog := ⟨[c], rfl⟩ }

theorem setRet (s : State) (r : Ret) : Grows s (s.setRet r) := { refl s with }

theorem raiseCtrl (s : State) (e : ControllerErr) : Grows s (s.raiseCtrl e) := { refl s with }

theorem countTxDrop (s : State) : Grows s s.countTxDrop := { refl s with }

theorem writeTiming (s : State) (t : BitTiming) : Grows s (s.writeTiming t) := { refl s with btValid := fun _ => rfl }

theorem setWarn (s : State) : Grows s s.setWarn := { refl s with warnFallback := fun _ => rfl }

theorem configure (t : BitTiming) (s : State) : Grows s (configure t s).2 := by
  have hlog : s.drvLog <+: (Machine.configure t s).2.drvLog := by
    rw [configure_eq]
    cases s.installAnswer <;> cases s.startAnswer <;> simp [List.append_assoc]
  rw [configure_frame]
  exact { refl s with drvLog := hlog }

theorem cmdClose (s : State) : Grows s (cmdClose s) := by
  rw [cmdClose_eq]
  exact { refl s with drvLog := ⟨_, rfl⟩ }

theorem cmdOpen (s : State) : Grows s (cmdOpen s).2 := by
  unfold Machine.cmdOpen
  split_ifs
  · exact configure s.bt s
  · exact raiseCtrl s .notConfigured

theorem txGate (f : CanFrame) (s : State) : Grows s (txGate f s).2 := by
  by_cases h : s.busState = .opened
  · rw [txGate_opened f h]
    exact { refl s with drvLog := ⟨_, rfl⟩ }
  · rw [txGate_notOpen f h]
    exact refl s

theorem runFrame (f : CanFrame) (s : State) : Grows s (runFrame f s) := by
  by_cases h : (Machine.txGate f s).1 = .ok
  · rw [runFrame_sent h]
    exact (txGate f s).trans (emit _ _)
  · rw [runFrame_refused h]
    exact ((txGate f s).trans (countTxDrop _)).trans (emit _ _)

theorem applyTiming (t : BitTiming) (s : State) : Grows s (applyTiming t s) := by
  by_cases h : s.busState = .closed
  · rw [applyTiming_closed t h]
    exact (writeTiming s t).trans (emit _ _)
  · rw [applyTiming_running t h]
    exact ((writeTiming s t).trans (configure t _)).trans (emit _ _)

theorem runDecoded (r : ParseResult) (s : State) : Grows s (runDecoded r s) := by
  match r with
  | .err _ | .ok (.control .versionHw) | .ok (.control .versionSw) => exact emit s _
  | .ok (.frame f) => exact runFrame f s
  | .ok (.control .openBus) => exact (cmdOpen s).trans (emit _ _)
  | .ok (.control .closeBus) => exact (cmdClose s).trans (emit _ _)
  | .ok (.control (.setBitrate n)) =>
    change Grows s (runSetBitrate n s)
    obtain h | ⟨t, h | h⟩ := runSetBitrate_cases n s <;> rw [h]
    · exact emit s nakUnit
    · exact applyTiming t s
    · exact (setWarn s).trans (applyTiming t s.setWarn)

theorem runLine (r : ParseResult) (s : State) : Grows s (runLine r s) := (runDecoded r s).trans (setRet _ _)

theorem runRecord (bytes : List Byte) (s : State) : Grows s (runRecord bytes s) := by
  have hlog : s.drvLog <+: (Machine.runRecord bytes s).drvLog := by
    rw [runRecord_eq]
    dsimp only
    split_ifs <;> simp
  have hdefect : s.hfDefect = true → (Machine.runRecord bytes s).hfDefect = true := by
    rw [runRecord_eq]
    simp +contextual
  rw [runRecord_frame]
  exact { refl s with drvLog := hlog, hfDefect := hdefect }

theorem frameByte (b : Byte) (s : State) : Grows s (frameByte b s) := by
  obtain h | h | h := frameByte_cases b s <;> rw [h]
  · exact refl s
  · exact { runLine (decodeSlcan s.lb) { s with lb := [] } with }
  · exact { refl s with }

theorem extractRecords (fuel : Nat) (s : State) : Grows s (extractRecords fuel s) := by
  induction fuel generalizing s with
  | zero => exact refl s
  | succ fuel ih =>
    unfold Machine.extractRecords
    split_ifs
    · exact refl s
    · exact Grows.trans { runRecord _ { s with rb := s.rb.drop (hfSize s.cfg.hfLayout) } with } (ih _)

theorem framePacket (p : List Byte) (s : State) : Grows s (framePacket p s) :=
  { extractRecords _ { s with rb := s.rb ++ p } with }

end Grows

theorem exec_grows (i : Instr) (s : State) : OnNext (Grows s) (exec i s) := by
  cases i with
  | slDataStd _ | slDataExt _ | slRemoteStd _ | slRemoteExt _ | slOpen _ | slClose _ | slSetBitrate _ | slVersionHw _
  | slVersionSw _ | slUnknown _ _ | execLine _ => exact .whenText (.runLine _ s)
  | frmByte b => exact .whenText (.frameByte b s)
  | ack | nak | verHw | verSw => exact .whenText (.emit s _)
  | decHostframe _ => exact .onRecord (.next (.setRet s _))
  | encHostframe _ _ | encSlcan _ => exact .next (.setRet s _)
  | execRecord bytes => exact .onRecord (.whenBinary (.runRecord bytes s))
  | frmPacket p => exact .whenBinary (.framePacket p s)
  | hostFormat _ | btConst | deviceConfig | ctlOther => exact .whenBinary (.respond s _)
  | setBittiming t => exact .whenBinary ((Grows.writeTiming s t).trans (.respond _ _))
  | modeStart => exact .whenBinary ((Grows.cmdOpen s).trans (.respond _ _))
  | modeStop => exact .whenBinary ((Grows.cmdClose s).trans (.respond _ _))
  | configure t => exact .next ((Grows.configure t s).trans (.setRet _ _))
  | cmdClose => exact .next ((Grows.cmdClose s).trans (.setRet _ _))
  | cmdOpen => exact .next ((Grows.cmdOpen s).trans (.setRet _ _))
  | txGate f => exact .next ((Grows.txGate f s).trans (.setRet _ _))
  | recStart => exact .stepWhen { Grows.call s .initiateRecovery with }
  | evRecTimeout => exact .stepWhen { Grows.refl s with }
  | evBusoff | evRecDone | cmdCheck => exact .next (by split_ifs <;> exact { Grows.refl s with })
  | evFatal =>
    refine .next ?_
    split_ifs
    · exact .refl s
    · exact (Grows.cmdClose s).trans (.raiseCtrl _ .fatal)
  | evBusRx _ => exact .stepWhen (by split_ifs <;> exact { Grows.refl s with })
  | htxPop => exact .htxPop fun u rest _ => { Grows.emit { s with oq := rest } u with }

/-- Settles O49: each operation keeps a flag that is set. -/
theorem stickyFlagsStaySet : Obligations.StickyFlagsStaySet := by
  intro i s t h
  obtain ⟨hbt, hwarn, hdefect, -, -, -⟩ := exec_grows i s t h
  exact ⟨hbt, hwarn, hdefect⟩

/-- Settles O51: each operation only appends. -/
theorem outputsOnlyGrow : Obligations.OutputsOnlyGrow := by
  intro i s t h
  obtain ⟨-, -, -, hhout, hcout, hlog⟩ := exec_grows i s t h
  exact ⟨hhout, hcout, hlog⟩

/-! ### `OQ` and the drop counters -/

/-- From `s` to `t` no unit enters or leaves `OQ` and no bus frame is dropped. -/
structure KeepsQueue (s t : State) : Prop where
  oq : t.oq = s.oq
  rxDropCnt : t.rxDropCnt = s.rxDropCnt

/-- From `s` to `t` no unit enters or leaves `OQ` and nothing is dropped. -/
structure DropsNothing (s t : State) : Prop extends KeepsQueue s t where
  txDropCnt : t.txDropCnt = s.txDropCnt

/-- From `s` to `t` a frame line was refused: counted and answered by the error token
(44_dispatch_and_forwarding.md R241). -/
structure RefusesFrame (s t : State) : Prop extends KeepsQueue s t where
  txDropCnt : t.txDropCnt = s.txDropCnt + 1
  hout : t.hout = s.hout ++ [nakUnit]
  ret : ∃ f : CanFrame, t.ret = .decoded (.ok (.frame f))

namespace DropsNothing
variable {s t : State}

theorem emit (h : DropsNothing s t) (u : List Byte) : DropsNothing s (t.emit u) := { h with }

theorem respond (h : DropsNothing s t) (r : CtlResp) : DropsNothing s (t.respond r) := { h with }

theorem setRet (h : DropsNothing s t) (r : Ret) : DropsNothing s (t.setRet r) := { h with }

theorem raiseCtrl (h : DropsNothing s t) (e : ControllerErr) : DropsNothing s (t.raiseCtrl e) := { h with }

end DropsNothing

theorem configure_dropsNothing (t : BitTiming) (s : State) : DropsNothing s (configure t s).2 := by
  rw [configure_frame]
  exact ⟨⟨rfl, rfl⟩, rfl⟩

theorem cmdClose_dropsNothing (s : State) : DropsNothing s (cmdClose s) := by
  rw [cmdClose_eq]
  exact ⟨⟨rfl, rfl⟩, rfl⟩

theorem cmdOpen_dropsNothing (s : State) : DropsNothing s (cmdOpen s).2 := by
  rw [cmdOpen_frame]
  exact ⟨⟨rfl, rfl⟩, rfl⟩

theorem txGate_dropsNothing (f : CanFrame) (s : State) : DropsNothing s (txGate f s).2 := by
  rw [txGate_frame]
  exact ⟨⟨rfl, rfl⟩, rfl⟩

theorem applyTiming_dropsNothing (t : BitTiming) (s : State) : DropsNothing s (applyTiming t s) := by
  by_cases h : s.busState = .closed
  · rw [applyTiming_closed t h]
    exact ⟨⟨rfl, rfl⟩, rfl⟩
  · rw [applyTiming_running t h]
    have hconf := configure_dropsNothing t (s.writeTiming t)
    exact ⟨⟨hconf.oq, hconf.rxDropCnt⟩, hconf.txDropCnt⟩

theorem runSetBitrate_dropsNothing (n : Fin 9) (s : State) : DropsNothing s (runSetBitrate n s) := by
  obtain h | ⟨t, h | h⟩ := runSetBitrate_cases n s <;> rw [h]
  · exact ⟨⟨rfl, rfl⟩, rfl⟩
  · exact applyTiming_dropsNothing t s
  · exact { applyTiming_dropsNothing t s.setWarn with }

/-- A line drops nothing, or it is a refused frame line. -/
theorem runLine_drops (r : ParseResult) (s : State) :
    DropsNothing s (runLine r s) ∨ RefusesFrame s (runLine r s) := by
  match r with
  | .ok (.frame f) =>
    have hgate := txGate_dropsNothing f s
    by_cases h : (txGate f s).1 = .ok
    · refine .inl ?_
      rw [runLine, runDecoded, runFrame_sent h]
      exact (hgate.emit _).setRet _
    · refine .inr ?_
      have hhout : (txGate f s).2.hout = s.hout := by rw [txGate_frame]
      rw [runLine, runDecoded, runFrame_refused h]
      exact ⟨⟨by simp [hgate.oq], by simp [hgate.rxDropCnt]⟩, by simp [hgate.txDropCnt], by simp [hhout], f, rfl⟩
  | .err _ | .ok (.control .versionHw) | .ok (.control .versionSw) => exact .inl ⟨⟨rfl, rfl⟩, rfl⟩
  | .ok (.control .openBus) => exact .inl (((cmdOpen_dropsNothing s).emit _).setRet _)
  | .ok (.control .closeBus) => exact .inl (((cmdClose_dropsNothing s).emit _).setRet _)
  | .ok (.control (.setBitrate n)) => exact .inl ((runSetBitrate_dropsNothing n s).setRet _)

theorem frameByte_drops (b : Byte) (s : State) :
    DropsNothing s (frameByte b s) ∨ RefusesFrame s (frameByte b s) := by
  obtain h | h | h := frameByte_cases b s <;> rw [h]
  · exact .inl ⟨⟨rfl, rfl⟩, rfl⟩
  · exact (runLine_drops (decodeSlcan s.lb) { s with lb := [] }).imp (fun h => { h with }) (fun h => { h with })
  · exact .inl ⟨⟨rfl, rfl⟩, rfl⟩

theorem runRecord_keepsQueue (bytes : List Byte) (s : State) : KeepsQueue s (runRecord bytes s) := by
  rw [runRecord_frame]
  exact ⟨rfl, rfl⟩

theorem framePacket_keepsQueue (p : List Byte) (s : State) : KeepsQueue s (framePacket p s) := by
  rw [framePacket_frame]
  exact ⟨rfl, rfl⟩

/-- What a completing instruction does to `OQ` and to the drop counters. -/
inductive QueueStep (s : State) : Instr → State → Prop
  /-- Anything but a bus frame and the writer, where nothing is dropped. -/
  | quiet {i : Instr} {t : State} (hi : ∀ f, i ≠ .evBusRx f) (h : DropsNothing s t) : QueueStep s i t
  /-- A frame line that the gate or the driver refuses. -/
  | refusedFrame {i : Instr} {t : State} (hi : ∀ f, i ≠ .evBusRx f) (h : RefusesFrame s t) : QueueStep s i t
  /-- Records, counted each by itself. -/
  | records {i : Instr} {t : State} {bytes : List Byte} (hi : i = .execRecord bytes ∨ i = .frmPacket bytes)
      (h : KeepsQueue s t) : QueueStep s i t
  /-- A bus frame that finds room. -/
  | queued (f : CanFrame) (h : s.oq.length < oqCap) :
      QueueStep s (.evBusRx f) { s with oq := s.oq ++ [encodeUnit s.cfg f] }
  /-- A bus frame that finds `OQ` full. -/
  | full (f : CanFrame) (h : oqCap ≤ s.oq.length) : QueueStep s (.evBusRx f) s.countRxDrop
  /-- The writer. -/
  | popped (u : List Byte) (rest : List (List Byte)) (h : s.oq = u :: rest) :
      QueueStep s .htxPop (State.emit { s with oq := rest } u)

theorem QueueStep.of_drops {s t : State} {i : Instr} (hi : ∀ f, i ≠ .evBusRx f)
    (h : DropsNothing s t ∨ RefusesFrame s t) : QueueStep s i t := h.elim (.quiet hi) (.refusedFrame hi)

theorem exec_queueStep (i : Instr) (s : State) : OnNext (QueueStep s i) (exec i s) := by
  cases i with
  | slDataStd _ | slDataExt _ | slRemoteStd _ | slRemoteExt _ | slOpen _ | slClose _ | slSetBitrate _ | slVersionHw _
  | slVersionSw _ | slUnknown _ _ | execLine _ => exact .whenText (.of_drops nofun (runLine_drops _ s))
  | frmByte b => exact .whenText (.of_drops nofun (frameByte_drops b s))
  | ack | nak | verHw | verSw => exact .whenText (.quiet nofun ⟨⟨rfl, rfl⟩, rfl⟩)
  | decHostframe _ => exact .onRecord (.next (.quiet nofun ⟨⟨rfl, rfl⟩, rfl⟩))
  | encHostframe _ _ | encSlcan _ => exact .next (.quiet nofun ⟨⟨rfl, rfl⟩, rfl⟩)
  | execRecord bytes => exact .onRecord (.whenBinary (.records (.inl rfl) (runRecord_keepsQueue bytes s)))
  | frmPacket p => exact .whenBinary (.records (.inr rfl) (framePacket_keepsQueue p s))
  | hostFormat _ | setBittiming _ | btConst | deviceConfig | ctlOther =>
    exact .whenBinary (.quiet nofun ⟨⟨rfl, rfl⟩, rfl⟩)
  | modeStart => exact .whenBinary (.quiet nofun ((cmdOpen_dropsNothing s).respond _))
  | modeStop => exact .whenBinary (.quiet nofun ((cmdClose_dropsNothing s).respond _))
  | configure t => exact .next (.quiet nofun ((configure_dropsNothing t s).setRet _))
  | cmdClose => exact .next (.quiet nofun ((cmdClose_dropsNothing s).setRet _))
  | cmdOpen => exact .next (.quiet nofun ((cmdOpen_dropsNothing s).setRet _))
  | txGate f => exact .next (.quiet nofun ((txGate_dropsNothing f s).setRet _))
  | recStart | evRecTimeout => exact .stepWhen (.quiet nofun ⟨⟨rfl, rfl⟩, rfl⟩)
  | evBusoff | evRecDone | cmdCheck =>
    exact .next (by split_ifs <;> exact .quiet nofun ⟨⟨rfl, rfl⟩, rfl⟩)
  | evFatal =>
    refine .next ?_
    split_ifs
    · exact .quiet nofun ⟨⟨rfl, rfl⟩, rfl⟩
    · exact .quiet nofun ((cmdClose_dropsNothing s).raiseCtrl .fatal)
  | evBusRx f =>
    refine .stepWhen ?_
    split_ifs with hroom
    · exact .queued f hroom
    · exact .full f (not_lt.1 hroom)
  | htxPop => exact .htxPop fun u rest h => .popped u rest h

/-- Settles O50, by what the instruction does to the queue and the counters. -/
theorem dropCountersCountDrops : Obligations.DropCountersCountDrops := by
  intro i s t h
  have noBusFrame (hi : ∀ f, i ≠ .evBusRx f) : ¬∃ f : CanFrame, i = .evBusRx f ∧ 128 ≤ s.oq.length :=
    fun ⟨f, hf, _⟩ => hi f hf
  cases exec_queueStep i s t h with
  | quiet hi hq => exact ⟨.inl ⟨hq.rxDropCnt, noBusFrame hi⟩, .inl hq.txDropCnt⟩
  | refusedFrame hi hq => exact ⟨.inl ⟨hq.rxDropCnt, noBusFrame hi⟩, .inr (.inl ⟨hq.txDropCnt, hq.hout, hq.ret⟩)⟩
  | records hi hq =>
    refine ⟨.inl ⟨hq.rxDropCnt, noBusFrame ?_⟩, .inr (.inr ⟨_, hi⟩)⟩
    obtain rfl | rfl := hi <;> nofun
  | queued f hroom => exact ⟨.inl ⟨rfl, fun ⟨_, _, hfull⟩ => (hroom.trans_le hfull).false⟩, .inl rfl⟩
  | full f hfull => exact ⟨.inr ⟨rfl, f, rfl, hfull⟩, .inl rfl⟩
  | popped u rest hq => exact ⟨.inl ⟨rfl, noBusFrame nofun⟩, .inl rfl⟩

/-! ### `OQ` along a run -/

/-- Only the writer's own turn takes from `OQ`. -/
theorem fetchTurn_eq_htxPop {t : Turn} {s s1 : State} (h : fetchTurn t s = some (.htxPop, s1)) : t = .op .htxPop := by
  cases t with
  | hrx =>
    unfold fetchTurn at h
    dsimp only at h
    (repeat' split at h) <;> cases h
  | ctl =>
    cases hp : s.cfg.proto with
    | text =>
      rw [fetchTurn_ctl_none (.inl hp)] at h
      cases h
    | binary =>
      cases hin : s.cin with
      | nil =>
        rw [fetchTurn_ctl_none (.inr hin)] at h
        cases h
      | cons c cs =>
        rw [fetchTurn_ctl_command hp hin] at h
        cases c <;> cases h
  | op i =>
    cases h
    rfl

section
variable {ρ : Nat → State} (hrun : Run ρ) (hfair : WeaklyFair ρ)
include hrun

/-- A step that is not the writer's leaves the waiting units where they are; more may come behind them. -/
theorem Run.oq_grows (n : Nat) (h : ¬takesAt ρ n (.op .htxPop)) : ∃ more, (ρ (n + 1)).oq = (ρ n).oq ++ more := by
  obtain ⟨u, hstep, hsup⟩ := hrun.steps n
  have hnext : (ρ (n + 1)).oq = u.oq := by rw [hsup.frame]
  rw [hnext]
  obtain ⟨-, rfl⟩ | ⟨t, rest, s1, ht, hs1, hexec⟩ := step_cases hstep
  · exact ⟨[], (List.append_nil _).symm⟩
  · have hoq : s1.oq = (ρ n).oq := by rw [hs1]
    rw [← hoq]
    obtain rfl | ⟨i, hfetch, hi⟩ := hexec
    · exact ⟨[], (List.append_nil _).symm⟩
    · cases exec_queueStep i s1 u hi with
      | quiet _ hq | refusedFrame _ hq | records _ hq => exact ⟨[], by rw [hq.oq, List.append_nil]⟩
      | queued f _ => exact ⟨_, rfl⟩
      | full _ _ => exact ⟨[], (List.append_nil _).symm⟩
      | popped _ _ _ =>
        rw [fetchTurn_eq_htxPop hfetch] at ht
        exact absurd (congrArg List.head? ht) h

/-- The writer's step takes the head and appends it to `HOUT`. -/
theorem Run.pops {n : Nat} {a : List Byte} {q : List (List Byte)} (h : takesAt ρ n (.op .htxPop))
    (hq : (ρ n).oq = a :: q) : (ρ (n + 1)).oq = q ∧ (ρ (n + 1)).hout = (ρ n).hout ++ [a] := by
  obtain ⟨u, hstep, hsup⟩ := hrun.steps n
  obtain ⟨rest, ht⟩ := List.head?_eq_some_iff.1 h
  have hpop := step_op ht rfl (execHtxPop_cons (s := (ρ n).beginTurn rest) hq)
  cases hstep.symm.trans hpop
  rw [hsup.frame]
  exact ⟨rfl, rfl⟩

include hfair

/-- The unit at the head waits until the writer moves, which then takes it; by induction on how long that is. -/
theorem Run.head_popped (n : Nat) {a : List Byte} {q : List (List Byte)} (hq : (ρ n).oq = a :: q) :
    ∃ m more, n ≤ m ∧ takesAt ρ m (.op .htxPop) ∧ (ρ m).oq = a :: q ++ more ∧ (ρ (m + 1)).oq = q ++ more ∧
      (ρ (m + 1)).hout = (ρ m).hout ++ [a] := by
  obtain ⟨m, hle, hmoves⟩ := hfair.writer n
  obtain ⟨k, rfl⟩ := Nat.exists_eq_add_of_le hle
  clear hle
  induction k generalizing n q with
  | zero =>
    have htake : takesAt ρ n (.op .htxPop) := hmoves.resolve_left (by simp [hq])
    obtain ⟨hnext, hhout⟩ := hrun.pops htake hq
    exact ⟨n, [], le_rfl, htake, by simp [hq], by simp [hnext], hhout⟩
  | succ k ih =>
    by_cases htake : takesAt ρ n (.op .htxPop)
    · obtain ⟨hnext, hhout⟩ := hrun.pops htake hq
      exact ⟨n, [], le_rfl, htake, by simp [hq], by simp [hnext], hhout⟩
    · obtain ⟨more, hmore⟩ := hrun.oq_grows n htake
      rw [hq, List.cons_append] at hmore
      rw [Nat.add_left_comm, Nat.add_comm k] at hmoves
      obtain ⟨m, more', hm, htake', hoq, hnext, hhout⟩ := ih (n + 1) hmore hmoves
      exact ⟨m, more ++ more', by omega, htake', by simp [hoq], by simp [hnext], hhout⟩

/-- Every waiting unit is written; by induction on the units before it. -/
theorem Run.unit_written (n : Nat) {before behind : List (List Byte)} {u : List Byte}
    (hq : (ρ n).oq = before ++ u :: behind) :
    ∃ m, n ≤ m ∧ takesAt ρ m (.op .htxPop) ∧ (∃ more, (ρ m).oq = u :: behind ++ more) ∧
      (ρ (m + 1)).hout = (ρ m).hout ++ [u] := by
  induction before generalizing n behind with
  | nil =>
    obtain ⟨m, more, hm, htake, hoq, -, hhout⟩ := hrun.head_popped hfair n hq
    exact ⟨m, hm, htake, ⟨more, hoq⟩, hhout⟩
  | cons a before ih =>
    obtain ⟨m, more, hm, -, -, hnext, -⟩ := hrun.head_popped hfair n hq
    have hrest := hnext.trans (List.append_assoc before (u :: behind) more)
    obtain ⟨m', hm', htake, ⟨more', hoq⟩, hhout⟩ := ih (m + 1) hrest
    exact ⟨m', by omega, htake, ⟨more ++ more', by simp [hoq]⟩, hhout⟩

end

/-- Settles O52: what one instruction does to the queue, then the runs. -/
theorem queueIsFifo : Obligations.QueueIsFifo := by
  refine ⟨fun i s t h => ?_, fun ρ n before behind u hrun hfair hq => hrun.unit_written hfair n hq⟩
  cases exec_queueStep i s t h with
  | quiet _ hq | refusedFrame _ hq | records _ hq => exact .inl hq.oq
  | queued f hroom => exact .inr (.inl ⟨f, rfl, rfl, hroom⟩)
  | full _ _ => exact .inl rfl
  | popped u rest hq => exact .inr (.inr ⟨u, rfl, hq, rfl⟩)

end Sys2Proof.Machine

namespace Sys2Proof

/-! ### A text decode gives a valid frame -/

section
variable {c : Prop} [Decidable c]

/-- A result of a choice is a result of one of its branches. -/
theorem of_ite_eq {a b r : ParseResult} {P : Prop} (ha : a = r → P) (hb : b = r → P) (h : (if c then a else b) = r) :
    P := by
  split_ifs at h
  · exact ha h
  · exact hb h

/-- A check of the decoder is passed where the result is no error. -/
theorem ite_err_eq_ok {e : ParseErr} {b : ParseResult} {d : Decoded} :
    (if c then .err e else b) = .ok d ↔ ¬c ∧ b = .ok d := by
  split_ifs <;> simp [*]

theorem dite_err_eq_ok {e : ParseErr} {b : ¬c → ParseResult} {d : Decoded} :
    (if h : c then .err e else b h) = .ok d ↔ ∃ h : ¬c, b h = .ok d := by
  split_ifs <;> simp [*]

end

/-- A frame comes from one of the four frame opcodes (40_text_codec.md R145). -/
theorem decodeSlcan_eq_frame {line : List Byte} {f : CanFrame} (h : decodeSlcan line = .ok (.frame f)) :
    ∃ (w : Nat) (ext rtr : Bool), decFrameLine line w ext rtr = .ok (.frame f) := by
  have frame {w : Nat} {ext rtr : Bool} (h : decFrameLine line w ext rtr = .ok (.frame f)) :
      ∃ (w : Nat) (ext rtr : Bool), decFrameLine line w ext rtr = .ok (.frame f) := ⟨w, ext, rtr, h⟩
  have bare {c : Command} : decBareControl c line ≠ .ok (.frame f) := by
    simp [decBareControl, ite_err_eq_ok]
  have bitrate : decSetBitrate line ≠ .ok (.frame f) := by
    unfold decSetBitrate
    dsimp only
    split_ifs <;> simp
  have unknown : decUnknown line ≠ .ok (.frame f) := by simp [decUnknown]
  revert h
  unfold decodeSlcan
  match line with
  | [] => nofun
  | op :: _ =>
    exact of_ite_eq frame <| of_ite_eq frame <| of_ite_eq frame <| of_ite_eq frame <|
      of_ite_eq (absurd · bare) <| of_ite_eq (absurd · bare) <| of_ite_eq (absurd · bitrate) <|
      of_ite_eq (absurd · bare) <| of_ite_eq (absurd · bare) (absurd · unknown)

/-- What the checks of 40_text_codec.md R141 leave of a frame line: an id in range, and the frame it gives. -/
theorem decFrameLine_eq_frame {line : List Byte} {w : Nat} {ext rtr : Bool} {f : CanFrame}
    (h : decFrameLine line w ext rtr = .ok (.frame f)) :
    hexSum ((line.drop 1).take w) < idLimit ext ∧
      f = { id := BitVec.ofNat 32 (hexSum ((line.drop 1).take w)), extended := ext, remote := rtr, dlc := f.dlc
            data := dataOf (lineData line w f.dlc.val rtr) } := by
  simp only [decFrameLine, ite_err_eq_ok, dite_err_eq_ok] at h
  obtain ⟨-, -, -, _, hid, -, -, -, h⟩ := h
  cases h
  exact ⟨not_le.1 hid, rfl⟩

theorem dataOf_getElem (g : Nat → Byte) (i : Fin 8) : (dataOf g)[i.val] = g i.val := by fin_cases i <;> rfl

/-- No digit is read for the bytes past the length, nor in a remote line. -/
theorem lineData_eq_zero (line : List Byte) (w : Nat) {d i : Nat} {rtr : Bool} (h : rtr = true ∨ d ≤ i) :
    lineData line w d rtr i = 0#8 := by
  refine if_neg ?_
  rintro ⟨hdata, hlt⟩
  obtain hrtr | hle := h
  · simp [hrtr] at hdata
  · omega

/-- Settles O12: the id was checked against its range, and the bytes for which no digit is read are 0. -/
theorem textDecodeGivesValidFrames : Obligations.TextDecodeGivesValidFrames := by
  intro line f h
  obtain ⟨w, ext, rtr, hline⟩ := decodeSlcan_eq_frame h
  obtain ⟨hid, hf⟩ := decFrameLine_eq_frame hline
  have hrange : f.id.toNat < idLimit f.extended := by
    rw [hf, BitVec.toNat_ofNat]
    exact (Nat.mod_le _ _).trans_lt hid
  have hcanonical : f.canonical = true := by
    refine decide_eq_true fun i hi => ?_
    rw [hf] at hi ⊢
    exact (dataOf_getElem _ i).trans (lineData_eq_zero line w hi)
  rw [CanFrame.valid, hcanonical, Bool.and_true]
  exact decide_eq_true hrange

end Sys2Proof

/-! PROOFS. Encoding (30_encoding.md): the response units of the Text protocol. -/

namespace Sys2Proof.Machine

/-- The Binary protocol enables no unit of the Text protocol. -/
theorem whenText_of_binary {s : State} (h : s.cfg.proto = .binary) (t : State) : whenText s t = .fault .onlyText := by
  simp [whenText, stepWhen, h]

/-- Settles O24: each of the four is one `emit` of its unit, enabled in Text. -/
theorem responseUnits : Obligations.ResponseUnits := by
  intro s
  constructor
  · intro htext
    have emits (u : List Byte) : whenText s (s.emit u) = .next { s with hout := s.hout ++ [u] } :=
      whenText_of_text htext _
    exact ⟨emits ackUnit, emits nakUnit, emits (versionUnit s.cfg.verHw), emits (versionUnit s.cfg.verSw)⟩
  · intro hbinary
    have stops (u : List Byte) : whenText s (s.emit u) = .fault .onlyText := whenText_of_binary hbinary _
    exact ⟨stops ackUnit, stops nakUnit, stops (versionUnit s.cfg.verHw), stops (versionUnit s.cfg.verSw)⟩

end Sys2Proof.Machine

/-! PROOFS. Text codec (40_text_codec.md). First hexadecimal digits and numerals, then the parts of a frame line, the
decoder, the encoder, and the two round trips. -/

namespace Sys2Proof

open Machine

/-! ### Hexadecimal digits -/

theorem isHex_hexDigit : ∀ n < 16, isHex (hexDigit n) = true := by decide

theorem hexVal_hexDigit : ∀ n < 16, hexVal (hexDigit n) = n := by decide

/-- The three ranges of 00_scope.md R8. -/
theorem isHex_iff {c : Byte} : isHex c = true ↔
    (0x30 ≤ c.toNat ∧ c.toNat ≤ 0x39) ∨ (0x41 ≤ c.toNat ∧ c.toNat ≤ 0x46) ∨ (0x61 ≤ c.toNat ∧ c.toNat ≤ 0x66) := by
  simp [isHex, BitVec.le_def, or_assoc]

theorem all_isHex_eq_false {l : List Byte} : l.all isHex = false ↔ ∃ c ∈ l, isHex c = false := by simp

theorem hexVal_lt {c : Byte} (h : isHex c = true) : hexVal c < 16 := by
  rw [isHex_iff] at h
  simp only [hexVal, BitVec.le_def, BitVec.toNat_ofNat]
  split_ifs <;> omega

/-- Writing a digit's value again gives the digit in uppercase. -/
theorem hexDigit_hexVal {c : Byte} (h : isHex c = true) : hexDigit (hexVal c) = upperHex c := by
  revert c
  decide

/-! ### Numerals: `hexK` and `hexSum` -/

@[simp] theorem length_hexK (k v : Nat) : (hexK k v).length = k := by
  induction k with
  | zero => rfl
  | succ k ih => simp [hexK, ih]

theorem isHex_of_mem_hexK {k v : Nat} {c : Byte} (h : c ∈ hexK k v) : isHex c = true := by
  induction k with
  | zero => simp [hexK] at h
  | succ k ih =>
    obtain rfl | h := List.mem_cons.1 h
    · exact isHex_hexDigit _ (Nat.mod_lt _ (by decide))
    · exact ih h

theorem hexSum_hexK (k v : Nat) : hexSum (hexK k v) = v % 16 ^ k := by
  induction k with
  | zero => simp [hexK, hexSum, Nat.mod_one]
  | succ k ih =>
    rw [hexK, hexSum, ih, hexVal_hexDigit _ (Nat.mod_lt _ (by decide)), length_hexK, Nat.mod_pow_succ]
    ring

theorem hexSum_lt {cs : List Byte} (h : ∀ c ∈ cs, isHex c = true) : hexSum cs < 16 ^ cs.length := by
  induction cs with
  | nil => simp [hexSum]
  | cons c cs ih =>
    obtain ⟨hc, hcs⟩ := List.forall_mem_cons.1 h
    calc hexVal c * 16 ^ cs.length + hexSum cs
        < hexVal c * 16 ^ cs.length + 16 ^ cs.length := by gcongr; exact ih hcs
      _ = (hexVal c + 1) * 16 ^ cs.length := by ring
      _ ≤ 16 * 16 ^ cs.length := by gcongr; exact hexVal_lt hc
      _ = 16 ^ (c :: cs).length := by rw [List.length_cons, pow_succ']

/-- Only the last `k` digits of a number are written. -/
theorem hexK_mul_pow_add {k j : Nat} (h : k ≤ j) (a v : Nat) : hexK k (a * 16 ^ j + v) = hexK k v := by
  induction k with
  | zero => rfl
  | succ k ih =>
    obtain ⟨m, rfl⟩ := Nat.exists_eq_add_of_le h
    have hsplit : a * 16 ^ (k + 1 + m) + v = v + 16 ^ k * (16 * (a * 16 ^ m)) := by ring
    rw [hexK, ih (by omega), hexK, hsplit, Nat.add_mul_div_left _ _ (by positivity), Nat.add_mul_mod_self_left]

/-- Writing a numeral's value again gives the numeral in uppercase. -/
theorem hexK_hexSum {cs : List Byte} (h : ∀ c ∈ cs, isHex c = true) :
    hexK cs.length (hexSum cs) = cs.map upperHex := by
  induction cs with
  | nil => rfl
  | cons c cs ih =>
    obtain ⟨hc, hcs⟩ := List.forall_mem_cons.1 h
    have hhigh : (hexVal c * 16 ^ cs.length + hexSum cs) / 16 ^ cs.length = hexVal c := by
      rw [Nat.add_comm, Nat.add_mul_div_right _ _ (by positivity), Nat.div_eq_of_lt (hexSum_lt hcs), Nat.zero_add]
    rw [List.length_cons, hexSum, hexK, hhigh, hexK_mul_pow_add le_rfl, ih hcs, Nat.mod_eq_of_lt (hexVal_lt hc),
      hexDigit_hexVal hc, List.map_cons]

/-! ### Bytes by their place -/

theorem byteAt_append_left {l : List Byte} {k : Nat} (h : k < l.length) (m : List Byte) :
    byteAt (l ++ m) k = byteAt l k := List.getD_append _ _ _ _ h

theorem byteAt_append_add (l m : List Byte) (k : Nat) : byteAt (l ++ m) (l.length + k) = byteAt m k := by
  rw [byteAt, List.getD_append_right _ _ _ _ (Nat.le_add_right _ _), Nat.add_sub_cancel_left]
  rfl

theorem byteAt_eq_getElem {l : List Byte} {k : Nat} (h : k < l.length) : byteAt l k = l[k] :=
  List.getD_eq_getElem _ _ h

theorem ext_byteAt {l m : List Byte} (hlen : l.length = m.length) (h : ∀ k < l.length, byteAt l k = byteAt m k) :
    l = m :=
  List.ext_getElem hlen fun k hl hm => by rw [← byteAt_eq_getElem hl, ← byteAt_eq_getElem hm, h k hl]

theorem byteAt_mem {l : List Byte} {k : Nat} (h : k < l.length) : byteAt l k ∈ l :=
  byteAt_eq_getElem h ▸ List.getElem_mem h

theorem byteAt_drop (l : List Byte) (n k : Nat) : byteAt (l.drop n) k = byteAt l (n + k) := by
  simp [byteAt, List.getD_eq_getElem?_getD]

theorem byteAt_hexK {w k : Nat} (h : k < w) (v : Nat) : byteAt (hexK w v) k = hexDigit (v / 16 ^ (w - 1 - k) % 16) := by
  induction w generalizing k with
  | zero => omega
  | succ w ih =>
    cases k with
    | zero => rfl
    | succ k =>
      rw [show w + 1 - 1 - (k + 1) = w - 1 - k by omega]
      exact ih (by omega)

/-- Two characters written for each byte stand at twice its place and after. -/
theorem byteAt_flatMap_pair (high low : Byte → Byte) {l : List Byte} {i : Nat} (h : i < l.length) :
    byteAt (l.flatMap fun b => [high b, low b]) (2 * i) = high l[i] ∧
      byteAt (l.flatMap fun b => [high b, low b]) (2 * i + 1) = low l[i] := by
  induction l generalizing i with
  | nil => simp at h
  | cons b l ih =>
    cases i with
    | zero => exact ⟨rfl, rfl⟩
    | succ i => exact ih (Nat.lt_of_succ_lt_succ h)

/-! ### The parts of a frame line -/

/-- A line by its parts (30_encoding.md R93): opcode, digits of the id, dlc digit, what follows. -/
def lineOf (op : Byte) (ids : List Byte) (dc : Byte) (rest : List Byte) : List Byte := op :: (ids ++ dc :: rest)

section
variable {w : Nat} {ids : List Byte} (op dc : Byte) (rest : List Byte)

theorem length_lineOf (hw : ids.length = w) : (lineOf op ids dc rest).length = 1 + w + 1 + rest.length := by
  simp [lineOf, hw]
  omega

theorem lineOf_ids (hw : ids.length = w) : ((lineOf op ids dc rest).drop 1).take w = ids := List.take_left' hw

theorem byteAt_lineOf_id (hw : ids.length = w) {k : Nat} (h : k < w) :
    byteAt (lineOf op ids dc rest) (1 + k) = byteAt ids k := by
  rw [Nat.add_comm]
  exact byteAt_append_left (hw ▸ h) _

theorem byteAt_lineOf_dlc (hw : ids.length = w) : byteAt (lineOf op ids dc rest) (1 + w) = dc := by
  rw [Nat.add_comm, ← hw]
  exact byteAt_append_add ids (dc :: rest) 0

theorem lineOf_rest (hw : ids.length = w) : (lineOf op ids dc rest).drop (2 + w) = rest := by
  rw [show 2 + w = ids.length + 1 + 1 by omega]
  simp [lineOf]

theorem byteAt_lineOf_rest (hw : ids.length = w) (k : Nat) :
    byteAt (lineOf op ids dc rest) (2 + w + k) = byteAt rest k := by
  rw [← byteAt_drop, lineOf_rest op dc rest hw]

theorem byteAt_lineOf_rest_succ (hw : ids.length = w) (k : Nat) :
    byteAt (lineOf op ids dc rest) (3 + w + k) = byteAt rest (k + 1) := by
  rw [← byteAt_lineOf_rest op dc rest hw, show 3 + w + k = 2 + w + (k + 1) by omega]

end

/-- What follows the opcode, by its parts, in a line long enough for id and dlc. -/
theorem drop_one_eq {line : List Byte} {w : Nat} (h : 1 + w < line.length) :
    line.drop 1 = (line.drop 1).take w ++ byteAt line (1 + w) :: line.drop (2 + w) := by
  rw [byteAt_eq_getElem h, show 2 + w = 1 + w + 1 by omega, List.getElem_cons_drop, ← List.drop_drop,
    List.take_append_drop]

/-! ### Decoding: the opcode -/

/-- A frame opcode selects the decoder of its id width and flags. -/
theorem decodeSlcan_of_frameKind {op : Byte} {w : Nat} {ext rtr : Bool} (h : (op, w, ext, rtr) ∈ frameLineKinds)
    (payload : List Byte) : decodeSlcan (op :: payload) = decFrameLine (op :: payload) w ext rtr := by
  simp only [frameLineKinds, List.mem_cons, Prod.mk.injEq, List.not_mem_nil, or_false] at h
  obtain ⟨rfl, rfl, rfl, rfl⟩ | ⟨rfl, rfl, rfl, rfl⟩ | ⟨rfl, rfl, rfl, rfl⟩ | ⟨rfl, rfl, rfl, rfl⟩ := h <;> rfl

theorem decodeSlcan_of_bareControl {op : Byte} {c : Command} (h : (op, c) ∈ bareControls) (payload : List Byte) :
    decodeSlcan (op :: payload) = decBareControl c (op :: payload) := by
  simp only [bareControls, List.mem_cons, Prod.mk.injEq, List.not_mem_nil, or_false] at h
  obtain ⟨rfl, rfl⟩ | ⟨rfl, rfl⟩ | ⟨rfl, rfl⟩ | ⟨rfl, rfl⟩ := h <;> rfl

theorem decodeSlcan_of_notOpcode {op : Byte} (h : isTextOpcode op = false) (payload : List Byte) :
    decodeSlcan (op :: payload) = .err .unknownOpcode := by
  simp only [isTextOpcode, List.contains_eq_mem, List.mem_cons, List.not_mem_nil, or_false, decide_eq_false_iff_not,
    not_or] at h
  simp [decodeSlcan, h, decUnknown]

/-- Every byte is a frame opcode, a control opcode without argument, `S`, or no text opcode (30_encoding.md R96). -/
theorem opcode_cases (op : Byte) :
    (∃ k, (op, k) ∈ frameLineKinds) ∨ (∃ c, (op, c) ∈ bareControls) ∨ op = 0x53#8 ∨ isTextOpcode op = false := by
  simp only [frameLineKinds, bareControls, isTextOpcode, List.contains_eq_mem, List.mem_cons, Prod.mk.injEq,
    List.not_mem_nil, or_false, exists_or, exists_and_left, exists_eq, and_true, decide_eq_false_iff_not]
  tauto

/-- Settles O9: the decoder evaluates on each unit. -/
theorem decodesSpecUnits : Obligations.DecodesSpecUnits := by
  unfold Obligations.DecodesSpecUnits
  decide

/-! ### Decoding: control lines -/

theorem decBareControl_of_ne_nil (c : Command) (op : Byte) {payload : List Byte} (h : payload ≠ []) :
    decBareControl c (op :: payload) = .err .tooLong :=
  if_pos (Nat.succ_lt_succ (List.length_pos_of_ne_nil h))

theorem decSetBitrate_of_not_digit {a : Byte} (h : a.toNat < 0x30 ∨ 0x38 < a.toNat) :
    decSetBitrate [0x53#8, a] = .err .badBitrate :=
  dif_neg fun hdigit : 0x30 ≤ a.toNat ∧ a.toNat ≤ 0x38 => by omega

/-- Settles O14: the opcode selects the decoder, and each decoder looks at the length first. -/
theorem controlLineDecoding : Obligations.ControlLineDecoding := by
  refine ⟨fun op c payload hop => ?bare, rfl, fun _ _ _ => rfl, ?digit, fun _ h => decSetBitrate_of_not_digit h,
    fun _ payload hop => decodeSlcan_of_notOpcode hop payload⟩
  case bare =>
    rw [decodeSlcan_of_bareControl hop]
    exact ⟨fun h => h ▸ rfl, decBareControl_of_ne_nil c op⟩
  case digit => decide

/-- Only a frame opcode gives a frame. -/
theorem frameKind_of_decodeSlcan {op : Byte} {payload : List Byte} {f : CanFrame}
    (h : decodeSlcan (op :: payload) = .ok (.frame f)) :
    ∃ (w : Nat) (ext rtr : Bool), (op, w, ext, rtr) ∈ frameLineKinds := by
  obtain ⟨⟨w, ext, rtr⟩, hop⟩ | ⟨c, hop⟩ | rfl | hop := opcode_cases op
  · exact ⟨w, ext, rtr, hop⟩
  · rw [decodeSlcan_of_bareControl hop, decBareControl, ite_err_eq_ok] at h
    simp at h
  · change decSetBitrate _ = _ at h
    simp only [decSetBitrate, ite_err_eq_ok] at h
    obtain ⟨-, -, h⟩ := h
    split_ifs at h
    simp at h
  · simp [decodeSlcan_of_notOpcode hop] at h

/-! ### Decoding: the checks of a frame line -/

/-- The line is long enough for its id and dlc, and these are hex digits: steps 1 to 3 of 40_text_codec.md R141. -/
structure ReadsHead (line : List Byte) (w : Nat) : Prop where
  long : 1 + w + 1 ≤ line.length
  idHex : ((line.drop 1).take w).all isHex = true
  dlcHex : isHex (byteAt line (1 + w)) = true

/-- Moreover dlc and id are in range: steps 4 and 5. -/
structure HeadInRange (line : List Byte) (w : Nat) (ext : Bool) : Prop extends ReadsHead line w where
  dlcRange : hexVal (byteAt line (1 + w)) ≤ 8
  idRange : hexSum ((line.drop 1).take w) < idLimit ext

/-- Moreover the length is the dlc's, and the data are hex digits: steps 6 to 8, so every check is passed. -/
structure PassesChecks (line : List Byte) (w : Nat) (ext rtr : Bool) : Prop extends HeadInRange line w ext where
  length : line.length = frameLineLength w rtr (hexVal (byteAt line (1 + w)))
  dataHex : (line.drop (2 + w)).all isHex = true

section
variable {line : List Byte} {w : Nat} {ext rtr : Bool}

theorem decFrameLine_badHead (hlong : 1 + w + 1 ≤ line.length)
    (hbad : ((line.drop 1).take w).all isHex = false ∨ isHex (byteAt line (1 + w)) = false) :
    decFrameLine line w ext rtr = .err .badHex := by
  rw [decFrameLine, if_neg hlong.not_gt]
  obtain hid | hdlc := hbad
  · simp only [hid, Bool.not_false, if_true]
  · simp only [hdlc, Bool.not_false, if_true, ite_self]

theorem ReadsHead.decFrameLine_badDlc (h : ReadsHead line w) (hdlc : 8 < hexVal (byteAt line (1 + w))) :
    decFrameLine line w ext rtr = .err .badDlc := by
  simp only [decFrameLine, h.long.not_gt, h.idHex, h.dlcHex, hdlc, Bool.not_true, Bool.false_eq_true, if_false,
    dite_true]

theorem ReadsHead.decFrameLine_idRange (h : ReadsHead line w) (hdlc : hexVal (byteAt line (1 + w)) ≤ 8)
    (hid : idLimit ext ≤ hexSum ((line.drop 1).take w)) : decFrameLine line w ext rtr = .err .idRange := by
  simp only [decFrameLine, h.long.not_gt, h.idHex, h.dlcHex, hdlc.not_gt, hid, Bool.not_true, Bool.false_eq_true,
    if_false, if_true, dite_false]

theorem HeadInRange.decFrameLine_truncated (h : HeadInRange line w ext)
    (hlen : line.length < frameLineLength w rtr (hexVal (byteAt line (1 + w)))) :
    decFrameLine line w ext rtr = .err .truncated := by
  simp only [decFrameLine, h.long.not_gt, h.idHex, h.dlcHex, h.dlcRange.not_gt, h.idRange.not_ge, hlen, Bool.not_true,
    Bool.false_eq_true, if_false, if_true, dite_false]

theorem HeadInRange.decFrameLine_tooLong (h : HeadInRange line w ext)
    (hlen : frameLineLength w rtr (hexVal (byteAt line (1 + w))) < line.length) :
    decFrameLine line w ext rtr = .err .tooLong := by
  simp only [decFrameLine, h.long.not_gt, h.idHex, h.dlcHex, h.dlcRange.not_gt, h.idRange.not_ge, hlen, hlen.not_gt,
    Bool.not_true, Bool.false_eq_true, if_false, if_true, dite_false]

theorem HeadInRange.decFrameLine_badData (h : HeadInRange line w ext)
    (hlen : line.length = frameLineLength w rtr (hexVal (byteAt line (1 + w))))
    (hdata : (line.drop (2 + w)).all isHex = false) : decFrameLine line w ext rtr = .err .badHex := by
  simp only [decFrameLine, h.long.not_gt, h.idHex, h.dlcHex, h.dlcRange.not_gt, h.idRange.not_ge, hlen.not_lt,
    hlen.not_gt, hdata, Bool.not_true, Bool.not_false, Bool.false_eq_true, if_false, if_true, dite_false]

end

/-- The frame says what the line's flags and digits say, the data bytes high nibble first (40_text_codec.md R141). -/
structure FrameOfLine (line : List Byte) (w : Nat) (ext rtr : Bool) (f : CanFrame) : Prop where
  id : f.id.toNat = hexSum ((line.drop 1).take w)
  extended : f.extended = ext
  remote : f.remote = rtr
  dlc : f.dlc.val = hexVal (byteAt line (1 + w))
  data : ∀ i : Fin 8, (f.data[i.val]).toNat =
    if rtr = false ∧ i.val < hexVal (byteAt line (1 + w)) then
      16 * hexVal (byteAt line (2 + w + 2 * i.val)) + hexVal (byteAt line (3 + w + 2 * i.val))
    else 0

section
variable {line : List Byte} {w : Nat} {ext rtr : Bool} {f g : CanFrame}

/-- A line determines its frame. -/
theorem FrameOfLine.unique (hf : FrameOfLine line w ext rtr f) (hg : FrameOfLine line w ext rtr g) : f = g := by
  have hid : f.id = g.id := BitVec.eq_of_toNat_eq (hf.id.trans hg.id.symm)
  have hext : f.extended = g.extended := hf.extended.trans hg.extended.symm
  have hrtr : f.remote = g.remote := hf.remote.trans hg.remote.symm
  have hdlc : f.dlc = g.dlc := Fin.ext (hf.dlc.trans hg.dlc.symm)
  have hdata : f.data = g.data := Vector.ext fun i hi =>
    BitVec.eq_of_toNat_eq ((hf.data ⟨i, hi⟩).trans (hg.data ⟨i, hi⟩).symm)
  cases f
  cases g
  simp only [CanFrame.mk.injEq]
  exact ⟨hid, hext, hrtr, hdlc, hdata⟩

theorem idLimit_le_two_pow (ext : Bool) : idLimit ext ≤ 2 ^ 32 := by cases ext <;> decide

theorem PassesChecks.isHex_byteAt (h : PassesChecks line w ext rtr) {k : Nat} (hk : 2 + w ≤ k)
    (hlt : k < line.length) : isHex (byteAt line k) = true := by
  obtain ⟨j, rfl⟩ := Nat.exists_eq_add_of_le hk
  rw [← byteAt_drop]
  exact List.all_eq_true.1 h.dataHex _ (byteAt_mem (by rw [List.length_drop]; omega))

/-- The two digits of a data byte make a number below 256. -/
theorem PassesChecks.toNat_lineData (h : PassesChecks line w ext rtr) (i : Nat) :
    (lineData line w (hexVal (byteAt line (1 + w))) rtr i).toNat =
      if rtr = false ∧ i < hexVal (byteAt line (1 + w)) then
        16 * hexVal (byteAt line (2 + w + 2 * i)) + hexVal (byteAt line (3 + w + 2 * i))
      else 0 := by
  unfold lineData
  split_ifs with hi
  · obtain ⟨rfl, hi⟩ := hi
    have hlen := h.length
    rw [frameLineLength, if_neg Bool.false_ne_true] at hlen
    have hhigh := hexVal_lt (h.isHex_byteAt (k := 2 + w + 2 * i) (by omega) (by omega))
    have hlow := hexVal_lt (h.isHex_byteAt (k := 3 + w + 2 * i) (by omega) (by omega))
    rw [BitVec.toNat_ofNat, Nat.mod_eq_of_lt (by omega)]
  · rfl

/-- A line that passes every check gives the frame its digits say. -/
theorem PassesChecks.exists_frame (h : PassesChecks line w ext rtr) :
    ∃ f, decFrameLine line w ext rtr = .ok (.frame f) ∧ FrameOfLine line w ext rtr f := by
  have hdec : decFrameLine line w ext rtr = .ok (.frame
      { id := BitVec.ofNat 32 (hexSum ((line.drop 1).take w)), extended := ext, remote := rtr
        dlc := ⟨hexVal (byteAt line (1 + w)), Nat.lt_succ_of_le h.dlcRange⟩
        data := dataOf (lineData line w (hexVal (byteAt line (1 + w))) rtr) }) := by
    simp only [decFrameLine, h.long.not_gt, h.idHex, h.dlcHex, h.dlcRange.not_gt, h.idRange.not_ge, h.length.not_lt,
      h.length.not_gt, h.dataHex, Bool.not_true, Bool.false_eq_true, if_false, dite_false]
  exact ⟨_, hdec,
    { id := by rw [BitVec.toNat_ofNat, Nat.mod_eq_of_lt (h.idRange.trans_le (idLimit_le_two_pow ext))]
      extended := rfl
      remote := rfl
      dlc := rfl
      data := fun i => by rw [dataOf_getElem, h.toNat_lineData] }⟩

theorem passesChecks_of_decFrameLine (h : decFrameLine line w ext rtr = .ok (.frame f)) :
    PassesChecks line w ext rtr := by
  simp only [decFrameLine, ite_err_eq_ok, dite_err_eq_ok, Bool.not_eq_true', Bool.not_eq_false] at h
  obtain ⟨hlong, hid, hdlc, hdlcRange, hidRange, hshort, hexcess, hdata, -⟩ := h
  exact
    { long := not_lt.1 hlong
      idHex := hid
      dlcHex := hdlc
      dlcRange := not_lt.1 hdlcRange
      idRange := not_le.1 hidRange
      length := le_antisymm (not_lt.1 hexcess) (not_lt.1 hshort)
      dataHex := hdata }

/-- A frame is what the digits of its line say. -/
theorem frameOfLine_of_decFrameLine (h : decFrameLine line w ext rtr = .ok (.frame f)) :
    FrameOfLine line w ext rtr f := by
  obtain ⟨g, hdec, hg⟩ := (passesChecks_of_decFrameLine h).exists_frame
  obtain rfl : f = g := by simpa [h] using hdec
  exact hg

theorem PassesChecks.decFrameLine_frame (h : PassesChecks line w ext rtr) (hf : FrameOfLine line w ext rtr f) :
    decFrameLine line w ext rtr = .ok (.frame f) := by
  obtain ⟨g, hdec, hg⟩ := h.exists_frame
  rw [hdec, hf.unique hg]

end

/-- Settles O13: each clause is one outcome of the decoder, the last one that of a line which passes every check. -/
theorem frameLineChecksInOrder : Obligations.FrameLineChecksInOrder := by
  intro op w ext rtr payload hop line idDigits d need
  have hline : decodeSlcan line = decFrameLine line w ext rtr := decodeSlcan_of_frameKind hop payload
  have hrest : payload.drop (1 + w) = line.drop (2 + w) := by
    rw [show 2 + w = 1 + w + 1 by omega]
    rfl
  rw [hline, hrest]
  refine ⟨fun hshort => if_pos hshort, fun hlong hbad => ?badHead, fun hlong hid hdlc => ?head⟩
  case badHead => exact decFrameLine_badHead hlong (hbad.imp_left all_isHex_eq_false.2)
  have head : ReadsHead line w := ⟨hlong, List.all_eq_true.2 hid, hdlc⟩
  refine ⟨head.decFrameLine_badDlc, head.decFrameLine_idRange, fun hdlcRange hidRange => ?inRange⟩
  have inRange : HeadInRange line w ext := ⟨head, hdlcRange, hidRange⟩
  refine ⟨inRange.decFrameLine_truncated, inRange.decFrameLine_tooLong,
    fun hlen hbad => inRange.decFrameLine_badData hlen (all_isHex_eq_false.2 hbad), fun hlen hdata => ?frame⟩
  obtain ⟨f, hdec, hf⟩ := PassesChecks.exists_frame ⟨inRange, hlen, List.all_eq_true.2 hdata⟩
  exact ⟨f, hdec, hf.id, hf.extended, hf.remote, hf.dlc, hf.data⟩

/-! ### Encoding: the line byte by byte -/

/-- How many data bytes the line of the frame has: none for a remote frame (40_text_codec.md R140). -/
def dataCount (f : CanFrame) : Nat := if f.remote then 0 else f.dlc.val

/-- The line of the frame without its terminator. -/
def frameLine (f : CanFrame) : List Byte :=
  lineOf (frameOpcode f) (hexK (idWidth f.extended) f.id.toNat) (hexDigit f.dlc.val) (dataDigits f)

theorem encodeSlcan_eq_frameLine (f : CanFrame) : encodeSlcan f = frameLine f ++ [cr] := by
  simp [encodeSlcan, frameLine, lineOf]

theorem hexK_two (b : Byte) : hexK 2 b.toNat = [hexDigit (b.toNat / 16), hexDigit (b.toNat % 16)] := by
  have hhigh : b.toNat / 16 % 16 = b.toNat / 16 := Nat.mod_eq_of_lt (by omega)
  simp [hexK, hhigh]

theorem dataDigits_eq (f : CanFrame) : dataDigits f =
    (f.data.toList.take (dataCount f)).flatMap fun b => [hexDigit (b.toNat / 16), hexDigit (b.toNat % 16)] := by
  simp only [dataDigits, dataCount, hexK_two]
  split_ifs <;> rfl

theorem dataCount_le (f : CanFrame) : dataCount f ≤ 8 := by
  unfold dataCount
  split_ifs <;> omega

theorem length_dataDigits (f : CanFrame) : (dataDigits f).length = 2 * dataCount f := by
  have hle := dataCount_le f
  simp only [dataDigits_eq, List.length_flatMap, List.length_cons, List.length_nil, List.map_const',
    List.sum_replicate_nat, List.length_take, Vector.length_toList]
  omega

/-- Each data byte is written as its two nibbles, the high one first. -/
theorem byteAt_dataDigits (f : CanFrame) {i : Nat} (hi : i < 8) (h : i < dataCount f) :
    byteAt (dataDigits f) (2 * i) = hexDigit (f.data[i].toNat / 16) ∧
      byteAt (dataDigits f) (2 * i + 1) = hexDigit (f.data[i].toNat % 16) := by
  have hlen : i < (f.data.toList.take (dataCount f)).length := by simp [h, hi]
  have hbyte : (f.data.toList.take (dataCount f))[i] = f.data[i] := by simp
  rw [dataDigits_eq, ← hbyte]
  exact byteAt_flatMap_pair _ _ hlen

/-- Settles O15: the line by its parts is opcode, id numeral, dlc digit, data digits and CR, each read at its place. -/
theorem encSlcanWritesTheLine : Obligations.EncSlcanWritesTheLine := by
  intro f s _
  refine ⟨encodeSlcan f, rfl, ?_⟩
  intro w d
  have hw : (hexK w f.id.toNat).length = w := length_hexK _ _
  have hd : (dataDigits f).length = 2 * d := length_dataDigits f
  have hline : encodeSlcan f =
      lineOf (frameOpcode f) (hexK w f.id.toNat) (hexDigit f.dlc.val) (dataDigits f ++ [cr]) := by
    simp [encodeSlcan, lineOf, idWidth, w]
  rw [hline]
  refine ⟨?length, ?opcode, fun k hk => ?id, byteAt_lineOf_dlc _ _ _ hw, fun i hi => ?data, ?terminator⟩
  case length => rw [length_lineOf _ _ _ hw, List.length_append, hd, ← Nat.add_assoc]; rfl
  case opcode =>
    change frameOpcode f = _
    unfold frameOpcode
    cases f.extended <;> cases f.remote <;> rfl
  case id => rw [byteAt_lineOf_id _ _ _ hw hk, byteAt_hexK hk]
  case data =>
    rw [byteAt_lineOf_rest _ _ _ hw, byteAt_lineOf_rest_succ _ _ _ hw, byteAt_append_left (by omega),
      byteAt_append_left (by omega)]
    exact byteAt_dataDigits f i.isLt hi
  case terminator =>
    rw [show 1 + w + 1 = 2 + w by omega, byteAt_lineOf_rest _ _ _ hw, ← hd]
    exact byteAt_append_add _ _ 0

/-! ### The round trips -/

theorem mem_frameLineKinds (f : CanFrame) :
    (frameOpcode f, idWidth f.extended, f.extended, f.remote) ∈ frameLineKinds := by
  unfold frameOpcode
  cases f.extended <;> cases f.remote <;> decide

/-- The flags of a frame line determine its opcode and id width. -/
theorem eq_of_mem_frameLineKinds {op : Byte} {w : Nat} {f : CanFrame}
    (h : (op, w, f.extended, f.remote) ∈ frameLineKinds) : op = frameOpcode f ∧ w = idWidth f.extended := by
  revert h
  unfold frameOpcode
  cases f.extended <;> cases f.remote <;> simp [frameLineKinds, idWidth]

theorem idLimit_le_pow_idWidth (ext : Bool) : idLimit ext ≤ 16 ^ idWidth ext := by cases ext <;> decide

theorem lt_dataCount_iff {f : CanFrame} {i : Nat} : i < dataCount f ↔ f.remote = false ∧ i < f.dlc.val := by
  unfold dataCount
  cases f.remote <;> simp

theorem frameLineLength_eq (f : CanFrame) (w : Nat) :
    frameLineLength w f.remote f.dlc.val = 1 + w + 1 + 2 * dataCount f := by
  unfold frameLineLength dataCount
  split_ifs <;> rfl

section
variable {f : CanFrame}

theorem idRange_of_valid (h : f.valid = true) : f.id.toNat < idLimit f.extended := by
  simp only [CanFrame.valid, Bool.and_eq_true, decide_eq_true_eq] at h
  exact h.1

/-- In a valid frame the bytes that are not sent are 0 (10_state.md R24). -/
theorem data_eq_zero_of_valid (h : f.valid = true) (i : Fin 8) (hi : ¬i.val < dataCount f) : f.data[i.val] = 0#8 := by
  simp only [CanFrame.valid, CanFrame.canonical, Bool.and_eq_true, decide_eq_true_eq] at h
  refine h.2 i ?_
  rw [lt_dataCount_iff] at hi
  cases hrtr : f.remote
  · exact .inr (not_lt.1 fun hlt => hi ⟨hrtr, hlt⟩)
  · exact .inl rfl

theorem hexSum_id_of_valid (h : f.valid = true) : hexSum (hexK (idWidth f.extended) f.id.toNat) = f.id.toNat := by
  rw [hexSum_hexK, Nat.mod_eq_of_lt ((idRange_of_valid h).trans_le (idLimit_le_pow_idWidth _))]

theorem hexVal_dlc (f : CanFrame) : hexVal (hexDigit f.dlc.val) = f.dlc.val := hexVal_hexDigit _ (by omega)

theorem isHex_of_mem_dataDigits {c : Byte} (h : c ∈ dataDigits f) : isHex c = true := by
  unfold dataDigits at h
  split_ifs at h
  · simp at h
  · obtain ⟨b, -, hc⟩ := List.mem_flatMap.1 h
    exact isHex_of_mem_hexK hc

theorem passesChecks_frameLine (h : f.valid = true) :
    PassesChecks (frameLine f) (idWidth f.extended) f.extended f.remote := by
  have hw : (hexK (idWidth f.extended) f.id.toNat).length = idWidth f.extended := length_hexK _ _
  have hdlc := f.dlc.isLt
  unfold frameLine
  refine ⟨⟨⟨?long, ?idHex, ?dlcHex⟩, ?dlcRange, ?idRange⟩, ?length, ?dataHex⟩
  case long => rw [length_lineOf _ _ _ hw]; omega
  case idHex => rw [lineOf_ids _ _ _ hw]; exact List.all_eq_true.2 fun _ => isHex_of_mem_hexK
  case dlcHex => rw [byteAt_lineOf_dlc _ _ _ hw]; exact isHex_hexDigit _ (by omega)
  case dlcRange => rw [byteAt_lineOf_dlc _ _ _ hw, hexVal_dlc]; omega
  case idRange => rw [lineOf_ids _ _ _ hw, hexSum_id_of_valid h]; exact idRange_of_valid h
  case length =>
    rw [length_lineOf _ _ _ hw, byteAt_lineOf_dlc _ _ _ hw, hexVal_dlc, frameLineLength_eq, length_dataDigits]
  case dataHex => rw [lineOf_rest _ _ _ hw]; exact List.all_eq_true.2 fun _ => isHex_of_mem_dataDigits

theorem frameOfLine_frameLine (h : f.valid = true) :
    FrameOfLine (frameLine f) (idWidth f.extended) f.extended f.remote f := by
  have hw : (hexK (idWidth f.extended) f.id.toNat).length = idWidth f.extended := length_hexK _ _
  unfold frameLine
  refine ⟨?id, rfl, rfl, ?dlc, fun i => ?data⟩
  case id => rw [lineOf_ids _ _ _ hw, hexSum_id_of_valid h]
  case dlc => rw [byteAt_lineOf_dlc _ _ _ hw, hexVal_dlc]
  case data =>
    rw [byteAt_lineOf_dlc _ _ _ hw, hexVal_dlc, byteAt_lineOf_rest _ _ _ hw, byteAt_lineOf_rest_succ _ _ _ hw]
    simp only [← lt_dataCount_iff]
    split_ifs with hi
    · obtain ⟨hhigh, hlow⟩ := byteAt_dataDigits f i.isLt hi
      rw [hhigh, hlow, hexVal_hexDigit _ (by omega), hexVal_hexDigit _ (by omega), Nat.div_add_mod]
    · rw [data_eq_zero_of_valid h i hi]
      rfl

end

/-- Settles O10: the encoded line passes every check, and its digits say the frame. -/
theorem textRoundTrip : Obligations.TextRoundTrip := by
  intro f hf
  refine ⟨frameLine f, encodeSlcan_eq_frameLine f, ?_⟩
  exact (decodeSlcan_of_frameKind (mem_frameLineKinds f) _).trans
    ((passesChecks_frameLine hf).decFrameLine_frame (frameOfLine_frameLine hf))

/-- Digits that give the data bytes of a frame are the digits written for them, up to case. -/
theorem dataDigits_eq_map_upperHex {f : CanFrame} {digits : List Byte} (hhex : ∀ c ∈ digits, isHex c = true)
    (hlen : digits.length = 2 * dataCount f)
    (hdata : ∀ i : Fin 8, i.val < dataCount f →
      f.data[i.val].toNat = 16 * hexVal (byteAt digits (2 * i.val)) + hexVal (byteAt digits (2 * i.val + 1))) :
    dataDigits f = digits.map upperHex := by
  have hle := dataCount_le f
  refine ext_byteAt (by rw [length_dataDigits, List.length_map, hlen]) fun k hk => ?_
  rw [length_dataDigits, ← hlen] at hk
  have hupper : byteAt (digits.map upperHex) k = hexDigit (hexVal (byteAt digits k)) := by
    rw [hexDigit_hexVal (hhex _ (byteAt_mem hk)), byteAt_eq_getElem (by rwa [List.length_map]), byteAt_eq_getElem hk,
      List.getElem_map]
  rw [hupper]
  obtain ⟨i, hi⟩ := k.even_or_odd'
  have hcount : i < dataCount f := by omega
  have hlow : hexVal (byteAt digits (2 * i + 1)) < 16 := hexVal_lt (hhex _ (byteAt_mem (by omega)))
  obtain ⟨hwriteHigh, hwriteLow⟩ := byteAt_dataDigits f (by omega) hcount
  have hbyte := hdata ⟨i, by omega⟩ hcount
  dsimp only at hbyte
  obtain rfl | rfl := hi
  · rw [hwriteHigh, hbyte]
    congr 1
    omega
  · rw [hwriteLow, hbyte]
    congr 1
    omega

section
variable {line : List Byte} {w : Nat} {ext rtr : Bool} {f : CanFrame}

theorem PassesChecks.hexK_id (h : PassesChecks line w ext rtr) (hf : FrameOfLine line w ext rtr f) :
    hexK w f.id.toNat = ((line.drop 1).take w).map upperHex := by
  have hlong := h.long
  have hw : ((line.drop 1).take w).length = w := by
    rw [List.length_take, List.length_drop]
    omega
  rw [hf.id, ← hexK_hexSum (List.all_eq_true.1 h.idHex), hw]

theorem PassesChecks.hexDigit_dlc (h : PassesChecks line w ext rtr) (hf : FrameOfLine line w ext rtr f) :
    hexDigit f.dlc.val = upperHex (byteAt line (1 + w)) := by
  rw [hf.dlc, hexDigit_hexVal h.dlcHex]

theorem PassesChecks.dataDigits_eq (h : PassesChecks line w ext rtr) (hf : FrameOfLine line w ext rtr f) :
    dataDigits f = (line.drop (2 + w)).map upperHex := by
  refine dataDigits_eq_map_upperHex (List.all_eq_true.1 h.dataHex) ?length fun i hi => ?byte
  case length =>
    rw [List.length_drop, h.length, ← hf.dlc, ← hf.remote, frameLineLength_eq]
    omega
  case byte =>
    rw [hf.data i, ← hf.dlc, ← hf.remote, if_pos (lt_dataCount_iff.1 hi), byteAt_drop, byteAt_drop,
      show 2 + w + (2 * i.val + 1) = 3 + w + 2 * i.val by omega]

end

/-- Settles O11: the line has passed every check, and each of its digits is written again from its value. -/
theorem textConverseRoundTrip : Obligations.TextConverseRoundTrip := by
  intro op payload f h
  obtain ⟨w, ext, rtr, hop⟩ := frameKind_of_decodeSlcan h
  rw [decodeSlcan_of_frameKind hop] at h
  have hchecks := passesChecks_of_decFrameLine h
  have hf := frameOfLine_of_decFrameLine h
  obtain rfl := hf.extended
  obtain rfl := hf.remote
  obtain ⟨rfl, rfl⟩ := eq_of_mem_frameLineKinds hop
  have hpayload : payload = _ := drop_one_eq (Nat.lt_of_succ_le hchecks.long)
  conv_rhs => rw [hpayload]
  rw [encodeSlcan_eq_frameLine, frameLine, hchecks.hexK_id hf, hchecks.hexDigit_dlc hf, hchecks.dataDigits_eq hf,
    List.map_append, List.map_cons]
  rfl

end Sys2Proof

/-! PROOFS. Binary codec (41_binary_codec.md). First reading and writing bytes of a record, then what an encoded record
holds, the frame a record decodes to, the well-formedness predicate, and the two round trips. -/

namespace Sys2Proof

open Machine

/-! ### Reading and writing a record (00_scope.md R9) -/

theorem memRead_one (l : List Byte) (a : Nat) : memRead l a 1 = (byteAt l a).toNat := by simp [memRead]

theorem memRead_four (l : List Byte) (a : Nat) : memRead l a 4 = le32At l a := by
  simp only [memRead, le32At, Nat.add_assoc, Nat.reduceAdd]
  omega

theorem le32At_lt (l : List Byte) (a : Nat) : le32At l a < 2 ^ 32 := by
  unfold le32At
  omega

theorem toNat_byteAt_add (l : List Byte) (a : Nat) {j : Nat} (hj : j < 4) :
    (byteAt l (a + j)).toNat = le32At l a / 256 ^ j % 256 := by
  unfold le32At
  obtain rfl | rfl | rfl | rfl : j = 0 ∨ j = 1 ∨ j = 2 ∨ j = 3 := by omega
  · rw [Nat.add_zero]
    omega
  all_goals omega

/-- Four bytes are determined by the number they make. -/
theorem byteAt_of_le32At {l m : List Byte} {a k : Nat} (h : le32At l a = le32At m a) (hk : a ≤ k) (hlt : k < a + 4) :
    byteAt l k = byteAt m k := by
  obtain ⟨j, rfl⟩ := Nat.exists_eq_add_of_le hk
  have hj : j < 4 := by omega
  exact BitVec.eq_of_toNat_eq (by rw [toNat_byteAt_add l a hj, toNat_byteAt_add m a hj, h])

theorem byteAt_set_self {l : List Byte} {a : Nat} (h : a < l.length) (b : Byte) : byteAt (l.set a b) a = b := by
  simp [byteAt, List.getD_eq_getElem?_getD, h]

theorem byteAt_set_of_ne {a k : Nat} (h : a ≠ k) (l : List Byte) (b : Byte) : byteAt (l.set a b) k = byteAt l k := by
  simp [byteAt, List.getD_eq_getElem?_getD, h]

theorem memRead_congr {l m : List Byte} {a n : Nat} (h : ∀ k, a ≤ k → k < a + n → byteAt l k = byteAt m k) :
    memRead l a n = memRead m a n := by
  induction n generalizing a with
  | zero => rfl
  | succ n ih =>
    rw [memRead, memRead, h a le_rfl (by omega), ih fun k hk hlt => h k (by omega) (by omega)]

@[simp] theorem length_memWrite (l : List Byte) (a n v : Nat) : (memWrite l a n v).length = l.length := by
  induction n generalizing l a v with
  | zero => rfl
  | succ n ih => rw [memWrite, ih, List.length_set]

theorem byteAt_memWrite_outside {a n k : Nat} (h : k < a ∨ a + n ≤ k) (l : List Byte) (v : Nat) :
    byteAt (memWrite l a n v) k = byteAt l k := by
  induction n generalizing l a v with
  | zero => rfl
  | succ n ih => rw [memWrite, ih (by omega), byteAt_set_of_ne (by omega)]

theorem memRead_memWrite_apart {a n b m : Nat} (h : b + m ≤ a ∨ a + n ≤ b) (l : List Byte) (v : Nat) :
    memRead (memWrite l a n v) b m = memRead l b m :=
  memRead_congr fun k _ _ => byteAt_memWrite_outside (by omega) l v

theorem memRead_memWrite_same {l : List Byte} {a n : Nat} (h : a + n ≤ l.length) (v : Nat) :
    memRead (memWrite l a n v) a n = v % 256 ^ n := by
  induction n generalizing l a v with
  | zero => simp [memRead, Nat.mod_one]
  | succ n ih =>
    have hbyte : (BitVec.ofNat 8 (v % 256)).toNat = v % 256 := by simp
    rw [memWrite, memRead, byteAt_memWrite_outside (by omega), byteAt_set_self (by omega), hbyte,
      ih (by rw [List.length_set]; omega), Nat.pow_succ', Nat.mod_mul]

theorem byteAt_memWrite_one {l : List Byte} {a : Nat} (h : a < l.length) (b : Byte) :
    byteAt (memWrite l a 1 b.toNat) a = b := by
  apply BitVec.eq_of_toNat_eq
  rw [← memRead_one, memRead_memWrite_same h, Nat.mod_eq_of_lt (by omega)]

section
variable (lay : HfLayout) (f : CanFrame)

@[simp] theorem length_writeData (n : Nat) (l : List Byte) : (writeData lay f n l).length = l.length := by
  induction n with
  | zero => rfl
  | succ n ih => rw [writeData, length_memWrite, ih]

theorem byteAt_writeData_below (n : Nat) (l : List Byte) {k : Nat} (h : k < offData lay) :
    byteAt (writeData lay f n l) k = byteAt l k := by
  induction n with
  | zero => rfl
  | succ n ih => rw [writeData, byteAt_memWrite_outside (by omega), ih]

theorem memRead_writeData_below (n : Nat) (l : List Byte) {a m : Nat} (h : a + m ≤ offData lay) :
    memRead (writeData lay f n l) a m = memRead l a m :=
  memRead_congr fun _ _ _ => byteAt_writeData_below lay f n l (by omega)

theorem byteAt_writeData {n : Nat} {l : List Byte} (h : offData lay + n ≤ l.length) {i : Nat} (hi : i < n) :
    byteAt (writeData lay f n l) (offData lay + i) = byteAt f.data.toList i := by
  induction n with
  | zero => omega
  | succ n ih =>
    rw [writeData]
    obtain rfl | hlt := Nat.eq_or_lt_of_le (Nat.le_of_lt_succ hi)
    · exact byteAt_memWrite_one (by rw [length_writeData]; omega) _
    · rw [byteAt_memWrite_outside (by omega), ih (by omega) hlt]

end

/-! ### The encoded record -/

theorem hfSize_eq (lay : HfLayout) : hfSize lay = offData lay + 8 := by cases lay <;> rfl

theorem nine_le_offData (lay : HfLayout) : 9 ≤ offData lay := by cases lay <;> decide

/-- The bytes hold the frame and the tag, each field at its place, and 0 between dlc and data (41_binary_codec.md
R161). -/
structure RecordOf (lay : HfLayout) (f : CanFrame) (tag : U32) (bytes : List Byte) : Prop where
  length : bytes.length = hfSize lay
  echo : le32At bytes 0 = tag.toNat
  canId : le32At bytes 4 = f.id.toNat + if f.extended then 2 ^ 31 else 0
  dlc : (byteAt bytes 8).toNat = f.dlc.val
  data : ∀ i : Fin 8, byteAt bytes (offData lay + i.val) = f.data[i.val]
  pad : ∀ k, 9 ≤ k → k < offData lay → byteAt bytes k = 0#8

theorem id_lt_of_valid {f : CanFrame} (h : f.valid = true) :
    (f.extended = true ∧ f.id.toNat < 2 ^ 29) ∨ (f.extended = false ∧ f.id.toNat < 2 ^ 11) := by
  have hid := idRange_of_valid h
  cases hext : f.extended
  · exact .inr ⟨rfl, by simpa [idLimit, hext] using hid⟩
  · exact .inl ⟨rfl, by simpa [idLimit, hext] using hid⟩

theorem recordOf_encodeHostframe (lay : HfLayout) {f : CanFrame} (h : f.valid = true) (tag : U32) :
    RecordOf lay f tag (encodeHostframe lay f tag) := by
  have hoff := nine_le_offData lay
  have hsize := hfSize_eq lay
  have hcan : (f.id.toNat + if f.extended then 2 ^ 31 else 0) < 256 ^ 4 := by
    obtain ⟨hext, hid⟩ | ⟨hext, hid⟩ := id_lt_of_valid h <;> simp [hext] <;> omega
  have hdlc := f.dlc.isLt
  unfold encodeHostframe
  refine ⟨?length, ?echo, ?canId, ?dlc, fun i => ?data, fun k hk hlt => ?pad⟩
  case length => simp
  case echo =>
    rw [← memRead_four, memRead_writeData_below _ _ _ _ (by omega), memRead_memWrite_apart (by decide),
      memRead_memWrite_apart (by decide), offEcho, memRead_memWrite_same (by rw [List.length_replicate]; omega),
      Nat.mod_eq_of_lt (by omega)]
  case canId =>
    rw [← memRead_four, memRead_writeData_below _ _ _ _ (by omega), memRead_memWrite_apart (by decide), offCanId,
      memRead_memWrite_same (by rw [length_memWrite, List.length_replicate]; omega), Nat.mod_eq_of_lt hcan]
  case dlc =>
    rw [← memRead_one, memRead_writeData_below _ _ _ _ (by omega), offDlc,
      memRead_memWrite_same (by simp only [length_memWrite, List.length_replicate]; omega),
      Nat.mod_eq_of_lt (by omega)]
  case data =>
    rw [byteAt_writeData lay f (by simp [hsize]) i.isLt, byteAt_eq_getElem (by simp), Vector.getElem_toList]
  case pad =>
    rw [byteAt_writeData_below _ _ _ _ hlt, byteAt_memWrite_outside (by unfold offDlc; omega),
      byteAt_memWrite_outside (by unfold offCanId; omega), byteAt_memWrite_outside (by unfold offEcho; omega),
      byteAt_eq_getElem (by rw [List.length_replicate]; omega), List.getElem_replicate]

/-- Settles O33: the record is returned, and each field is read where it was written. -/
theorem encHostframeWritesTheRecord : Obligations.EncHostframeWritesTheRecord := by
  intro f tag s hf
  have hu := recordOf_encodeHostframe s.cfg.hfLayout hf tag
  exact ⟨_, rfl, hu.length, hu.echo, hu.canId, hu.dlc, hu.data, hu.pad⟩

/-! ### The frame a record decodes to -/

@[simp] theorem toNat_recCanId (bytes : List Byte) : (recCanId bytes).toNat = le32At bytes 4 := by
  rw [recCanId, memRead_four, BitVec.toNat_ofNat, offCanId, Nat.mod_eq_of_lt (le32At_lt _ _)]

theorem getLsbD_recCanId (bytes : List Byte) : (recCanId bytes).getLsbD 31 = decide (2 ^ 31 ≤ le32At bytes 4) := by
  rw [← toNat_recCanId]
  exact BitVec.msb_eq_decide (recCanId bytes)

theorem recDlc_val (bytes : List Byte) : (recDlc bytes).val = min (byteAt bytes 8).toNat 8 := by
  simp only [recDlc, memRead_one, offDlc]

/-- The frame says what the fields of the record say, whatever its bytes are (41_binary_codec.md R160). -/
structure FrameOfRecord (lay : HfLayout) (bytes : List Byte) (f : CanFrame) : Prop where
  extended : f.extended = decide (2 ^ 31 ≤ le32At bytes 4)
  id : f.id.toNat = if f.extended then le32At bytes 4 % 2 ^ 29 else le32At bytes 4 % 2 ^ 11
  remote : f.remote = false
  dlc : f.dlc.val = min (byteAt bytes 8).toNat 8
  data : ∀ i : Fin 8, f.data[i.val] = if i.val < f.dlc.val then byteAt bytes (offData lay + i.val) else 0#8

theorem frameOfRecord_decodeHostframe (lay : HfLayout) (bytes : List Byte) :
    FrameOfRecord lay bytes (decodeHostframe lay bytes) where
  extended := getLsbD_recCanId bytes
  id := by
    simp only [decodeHostframe, getLsbD_recCanId]
    split_ifs <;> simp <;> omega
  remote := rfl
  dlc := recDlc_val bytes
  data i := by simp [decodeHostframe, dataOf_getElem, memRead_one]

section
variable {lay : HfLayout} {bytes : List Byte} {f g : CanFrame} {tag : U32}

/-- A record determines its frame. -/
theorem FrameOfRecord.unique (hf : FrameOfRecord lay bytes f) (hg : FrameOfRecord lay bytes g) : f = g := by
  have hext : f.extended = g.extended := hf.extended.trans hg.extended.symm
  have hid : f.id = g.id := BitVec.eq_of_toNat_eq (by rw [hf.id, hg.id, hext])
  have hrtr : f.remote = g.remote := hf.remote.trans hg.remote.symm
  have hdlc : f.dlc = g.dlc := Fin.ext (hf.dlc.trans hg.dlc.symm)
  have hdata : f.data = g.data := Vector.ext fun i hi => by
    rw [hf.data ⟨i, hi⟩, hg.data ⟨i, hi⟩, hdlc]
  cases f
  cases g
  simp only [CanFrame.mk.injEq]
  exact ⟨hid, hext, hrtr, hdlc, hdata⟩

theorem FrameOfRecord.valid (hf : FrameOfRecord lay bytes f) : f.valid = true := by
  have hrange : f.id.toNat < idLimit f.extended := by
    rw [hf.id, idLimit]
    split_ifs <;> omega
  have hcanonical : f.canonical = true := by
    refine decide_eq_true fun i hi => ?_
    have hdlc : f.dlc.val ≤ i.val := by simpa [hf.remote] using hi
    rw [hf.data i, if_neg hdlc.not_gt]
  rw [CanFrame.valid, hcanonical, Bool.and_true]
  exact decide_eq_true hrange

end

/-- Settles O32: the frame is returned, it says what the record says, and it is valid for that. -/
theorem decHostframeReadsTheRecord : Obligations.DecHostframeReadsTheRecord := by
  intro bytes s hlen
  have hf := frameOfRecord_decodeHostframe s.cfg.hfLayout bytes
  exact ⟨_, if_pos hlen, hf.valid, by rw [hf.extended, decide_eq_true_iff], hf.id, hf.remote, hf.dlc, hf.data⟩

/-! ### Well-formed records -/

/-- 41_binary_codec.md R162 in arithmetic: bits 30 and 29, bits 28 to 11 of a standard record, and the dlc. -/
theorem hostframeWellformed_iff (bytes : List Byte) :
    hostframeWellformed bytes = true ↔
      le32At bytes 4 / 2 ^ 29 % 4 = 0 ∧ (2 ^ 31 ≤ le32At bytes 4 ∨ le32At bytes 4 / 2 ^ 11 % 2 ^ 18 = 0) ∧
        (byteAt bytes 8).toNat ≤ 8 := by
  rw [hostframeWellformed, getLsbD_recCanId, memRead_one, offDlc]
  simp [← BitVec.toNat_inj, Nat.shiftRight_eq_div_pow, and_assoc]

theorem RecordOf.wellformed {lay : HfLayout} {f : CanFrame} {tag : U32} {bytes : List Byte}
    (hu : RecordOf lay f tag bytes) (hf : f.valid = true) : hostframeWellformed bytes = true := by
  have hdlc := f.dlc.isLt
  rw [hostframeWellformed_iff, hu.canId, hu.dlc]
  obtain ⟨hext, hid⟩ | ⟨hext, hid⟩ := id_lt_of_valid hf <;> simp [hext] <;> omega

/-- Settles O31: the predicate's bits in arithmetic, and an encoded record has its `can_id` and dlc in range. -/
theorem wellformedRecords : Obligations.WellformedRecords :=
  ⟨hostframeWellformed_iff, fun lay _ tag hf => (recordOf_encodeHostframe lay hf tag).wellformed hf⟩

/-! ### The round trips -/

section
variable {lay : HfLayout} {f : CanFrame} {tag : U32} {bytes again : List Byte}

/-- A record that holds a valid frame says that frame, all but its remote flag. -/
theorem RecordOf.frameOfRecord (hu : RecordOf lay f tag bytes) (hf : f.valid = true) :
    FrameOfRecord lay bytes { f with remote := false } := by
  refine ⟨?extended, ?id, rfl, ?dlc, fun i => ?data⟩
  case extended =>
    rw [hu.canId]
    obtain ⟨hext, -⟩ | ⟨hext, hid⟩ := id_lt_of_valid hf
    · simp [hext]
    · simp [hext]
      omega
  case id =>
    rw [hu.canId]
    obtain ⟨hext, hid⟩ | ⟨hext, hid⟩ := id_lt_of_valid hf <;> simp [hext] <;> omega
  case dlc =>
    rw [hu.dlc]
    exact (min_eq_left (Nat.le_of_lt_succ f.dlc.isLt)).symm
  case data =>
    rw [hu.data]
    split_ifs with hi
    · rfl
    · exact data_eq_zero_of_valid hf i fun hlt => hi (lt_dataCount_iff.1 hlt).2

/-- The `can_id` of a well-formed record is the one written for its frame: no bit that is masked off was set. -/
theorem FrameOfRecord.canId_of_wellformed (hf : FrameOfRecord lay bytes f) (hw : hostframeWellformed bytes = true) :
    f.id.toNat + (if f.extended then 2 ^ 31 else 0) = le32At bytes 4 := by
  obtain ⟨hreserved, hstandard, -⟩ := (hostframeWellformed_iff bytes).1 hw
  have hlt := le32At_lt bytes 4
  rw [hf.id, hf.extended]
  simp only [decide_eq_true_eq]
  split_ifs <;> omega

/-- The bytes of a record written again from its frame: those that hold no field of the frame are 0. -/
theorem RecordOf.byteAt_of_wellformed (hagain : RecordOf lay f tag again) (hf : FrameOfRecord lay bytes f)
    (hw : hostframeWellformed bytes = true) (htag : tag.toNat = le32At bytes 0) {k : Nat} (hk : k < hfSize lay) :
    byteAt again k =
      if offData lay + (byteAt bytes 8).toNat ≤ k ∨ 9 ≤ k ∧ k < offData lay then 0#8 else byteAt bytes k := by
  have hoff := nine_le_offData lay
  have hdlc : f.dlc.val = (byteAt bytes 8).toNat :=
    hf.dlc.trans (min_eq_left ((hostframeWellformed_iff bytes).1 hw).2.2)
  rw [hfSize_eq] at hk
  obtain hecho | hcan | rfl | hpad | hdata :
      k < 4 ∨ (4 ≤ k ∧ k < 8) ∨ k = 8 ∨ (9 ≤ k ∧ k < offData lay) ∨ offData lay ≤ k := by omega
  · rw [if_neg (by omega), byteAt_of_le32At (hagain.echo.trans htag) k.zero_le hecho]
  · rw [if_neg (by omega), byteAt_of_le32At (hagain.canId.trans (hf.canId_of_wellformed hw)) hcan.1 hcan.2]
  · rw [if_neg (by omega)]
    exact BitVec.eq_of_toNat_eq (hagain.dlc.trans hdlc)
  · rw [if_pos (.inr hpad), hagain.pad k hpad.1 hpad.2]
  · obtain ⟨i, rfl⟩ := Nat.exists_eq_add_of_le hdata
    rw [hagain.data ⟨i, by omega⟩, hf.data ⟨i, by omega⟩, hdlc]
    by_cases hi : i < (byteAt bytes 8).toNat
    · rw [if_pos hi, if_neg (by omega)]
    · rw [if_neg hi, if_pos (by omega)]

end

/-- Settles O30: an encoded record says its frame, and the frame of a well-formed record says its fields. -/
theorem binaryRoundTrip : Obligations.BinaryRoundTrip := by
  refine ⟨fun lay f tag hf => ?_, fun lay bytes _ hw => ?_⟩
  · have hrecord := recordOf_encodeHostframe lay hf tag
    exact (frameOfRecord_decodeHostframe lay _).unique (hrecord.frameOfRecord hf)
  · intro again
    have hframe := frameOfRecord_decodeHostframe lay bytes
    have hrecord := recordOf_encodeHostframe lay hframe.valid (BitVec.ofNat 32 (le32At bytes 0))
    have htag : (BitVec.ofNat 32 (le32At bytes 0)).toNat = le32At bytes 0 := by
      rw [BitVec.toNat_ofNat, Nat.mod_eq_of_lt (le32At_lt _ _)]
    exact ⟨hrecord.length, fun k hk => hrecord.byteAt_of_wellformed hframe hw htag hk⟩

end Sys2Proof

/-! PROOFS. Framers (42_framers.md): where each instruction is enabled, what one byte does to the line buffer, and the
loop of the packet framer. -/

namespace Sys2Proof.Machine

/-! ### Where a result is a next state -/

theorem stepWhen_completes {e : Bool} {why : Fault} {u : State} : (∃ t, stepWhen e why u = .next t) ↔ e = true := by
  cases e <;> simp [stepWhen]

theorem whenText_completes {s u : State} : (∃ t, whenText s u = .next t) ↔ (s.cfg.proto == .text) = true :=
  stepWhen_completes

theorem whenBinary_completes {s u : State} : (∃ t, whenBinary s u = .next t) ↔ (s.cfg.proto == .binary) = true :=
  stepWhen_completes

theorem onRecord_completes {bytes : List Byte} {s : State} {r : Result} :
    (∃ t, onRecord bytes s r = .next t) ↔ bytes.length = hfSize s.cfg.hfLayout ∧ ∃ t, r = .next t := by
  unfold onRecord
  split_ifs with h <;> simp [h]

theorem next_completes (u : State) : (∃ t, (.next u : Result) = .next t) ↔ true = true :=
  ⟨fun _ => rfl, fun _ => ⟨u, rfl⟩⟩

theorem execHtxPop_completes {s : State} : (∃ t, execHtxPop s = .next t) ↔ s.oq ≠ [] := by
  cases hq : s.oq with
  | nil => simp [execHtxPop_nil hq]
  | cons u rest => simp [execHtxPop_cons hq]

/-- Settles O8: each instruction is one enabling condition around a meaning that completes. -/
theorem completesExactlyWhereEnabled : Obligations.CompletesExactlyWhereEnabled := by
  intro i s
  cases i with
  | slDataStd _ | slDataExt _ | slRemoteStd _ | slRemoteExt _ | slOpen _ | slClose _ | slSetBitrate _ | slVersionHw _
  | slVersionSw _ | slUnknown _ _ | execLine _ | ack | nak | verHw | verSw | frmByte _ => exact whenText_completes
  | hostFormat _ | setBittiming _ | modeStart | modeStop | btConst | deviceConfig | ctlOther | frmPacket _ =>
    exact whenBinary_completes
  | decHostframe bytes => exact onRecord_completes.trans (by simp [enabled])
  | execRecord bytes => exact onRecord_completes.trans (by simp [enabled, whenBinary_completes])
  | encHostframe _ _ | encSlcan _ | configure _ | cmdClose | cmdOpen | txGate _ | evBusoff | evRecDone | evFatal
  | cmdCheck => exact next_completes _
  | recStart | evRecTimeout => exact stepWhen_completes
  | evBusRx f => exact stepWhen_completes.trans (by simp [enabled])
  | htxPop => exact execHtxPop_completes.trans (by simp [enabled])

/-! ### The text framer: one byte (42_framers.md R180 to R182) -/

theorem isTerminator_iff {b : Byte} : isTerminator b = true ↔ b = cr ∨ b = lf := by simp [isTerminator]

section
variable {b : Byte} {s : State}

theorem frameByte_noLine (hb : b = cr ∨ b = lf) (hlb : s.lb = []) : frameByte b s = s := by
  simp [frameByte, isTerminator_iff.2 hb, hlb]

theorem frameByte_line (hb : b = cr ∨ b = lf) (hlb : s.lb ≠ []) :
    frameByte b s = runLine (decodeSlcan s.lb) { s with lb := [] } := by
  simp [frameByte, isTerminator_iff.2 hb, hlb]

theorem frameByte_room (hb : ¬(b = cr ∨ b = lf)) (hlb : s.lb.length < lineCap) :
    frameByte b s = { s with lb := s.lb ++ [b] } := by
  rw [frameByte, if_neg (mt isTerminator_iff.1 hb), if_pos hlb]

theorem frameByte_full (hb : ¬(b = cr ∨ b = lf)) (hlb : lineCap ≤ s.lb.length) : frameByte b s = s := by
  rw [frameByte, if_neg (mt isTerminator_iff.1 hb), if_neg hlb.not_gt]

/-- A terminator executes the line held, with the buffer empty. -/
theorem exec_frmByte_line (hb : b = cr ∨ b = lf) (hlb : s.lb ≠ []) :
    exec (.frmByte b) s = exec (.execLine s.lb) { s with lb := [] } :=
  congrArg (whenText s) (frameByte_line hb hlb)

theorem exec_frmByte_of_text (h : s.cfg.proto = .text) : exec (.frmByte b) s = .next (frameByte b s) :=
  whenText_of_text h _

end

/-- Settles O25: the byte is a terminator or not, and the buffer has a line or room or not. -/
theorem frameByteBuffersOrExecutes : Obligations.FrameByteBuffersOrExecutes := by
  intro b s
  refine ⟨fun hp hb hlb => ⟨⟨_, exec_frmByte_of_text hp⟩, exec_frmByte_line hb hlb⟩, fun hp hb hlb => ?noLine,
    fun hp hcr hlf hlb => ?room, fun hp hcr hlf hlb => ?full, fun hp => whenText_of_binary hp _⟩
  case noLine => rw [exec_frmByte_of_text hp, frameByte_noLine hb hlb]
  case room => rw [exec_frmByte_of_text hp, frameByte_room (not_or.2 ⟨hcr, hlf⟩) hlb]
  case full => rw [exec_frmByte_of_text hp, frameByte_full (not_or.2 ⟨hcr, hlf⟩) hlb]

/-! ### A line the decoder accepts is short -/

theorem decFrameLine_ok_length {line : List Byte} {w : Nat} {ext rtr : Bool} {d : Decoded}
    (h : decFrameLine line w ext rtr = .ok d) : line.length ≤ w + 18 := by
  simp only [decFrameLine, ite_err_eq_ok, dite_err_eq_ok] at h
  obtain ⟨-, -, -, hdlc, -, -, hlen, -⟩ := h
  unfold frameLineLength at hlen
  split_ifs at hlen <;> omega

theorem idWidth_le_of_frameKind {op : Byte} {w : Nat} {ext rtr : Bool} (h : (op, w, ext, rtr) ∈ frameLineKinds) :
    w ≤ 8 := by
  have hall : ∀ k ∈ frameLineKinds, k.2.1 ≤ 8 := by decide
  exact hall _ h

/-- The longest line the decoder accepts is an extended data frame of 8 bytes, 26 characters (30_encoding.md R92). -/
theorem decodeSlcan_ok_length {line : List Byte} {d : Decoded} (h : decodeSlcan line = .ok d) : line.length ≤ 26 := by
  cases line with
  | nil => exact Nat.zero_le _
  | cons op payload =>
    obtain ⟨⟨w, ext, rtr⟩, hop⟩ | ⟨c, hop⟩ | rfl | hop := opcode_cases op
    · rw [decodeSlcan_of_frameKind hop] at h
      have hlen := decFrameLine_ok_length h
      have hw := idWidth_le_of_frameKind hop
      omega
    · rw [decodeSlcan_of_bareControl hop, decBareControl, ite_err_eq_ok] at h
      omega
    · change decSetBitrate _ = _ at h
      simp only [decSetBitrate, ite_err_eq_ok] at h
      omega
    · simp [decodeSlcan_of_notOpcode hop] at h

/-- Settles O26: no line of 128 characters decodes, and a line that does not decode emits the error token. -/
theorem overflowedLineRejected : Obligations.OverflowedLineRejected := by
  intro b s hp hb hfull
  have hne : s.lb ≠ [] := List.ne_nil_of_length_pos (by omega)
  cases hdec : decodeSlcan s.lb with
  | ok d =>
    have := decodeSlcan_ok_length hdec
    omega
  | err e =>
    refine ⟨e, ?_⟩
    rw [exec_frmByte_of_text hp, frameByte_line hb hne, hdec]
    rfl

/-! ### The step at a terminator -/

/-- Choosing the instruction and choosing the decoder by the same test is the same. -/
theorem exec_ite_eq {c : Prop} [Decidable c] {i j : Instr} {r r' : ParseResult} {s : State}
    (hi : c → exec i s = whenText s (runLine r s)) (hj : exec j s = whenText s (runLine r' s)) :
    exec (if c then i else j) s = whenText s (runLine (if c then r else r') s) := by
  split_ifs with h
  · exact hi h
  · exact hj

/-- The instruction a line's first byte selects is the execution of the line. -/
theorem exec_selectOpcode (op : Byte) (payload : List Byte) (s : State) :
    exec (selectOpcode op payload) s = exec (.execLine (op :: payload)) s := by
  change _ = whenText s (runLine (decodeSlcan (op :: payload)) s)
  unfold selectOpcode decodeSlcan
  dsimp only
  refine exec_ite_eq ?_ <| exec_ite_eq ?_ <| exec_ite_eq ?_ <| exec_ite_eq ?_ <| exec_ite_eq ?_ <| exec_ite_eq ?_ <|
    exec_ite_eq ?_ <| exec_ite_eq ?_ <| exec_ite_eq ?_ rfl <;>
  · rintro rfl
    rfl

theorem exec_of_decodeLine {line : List Byte} {i : Instr} (h : decodeLine line = .ok i) (s : State) :
    exec i s = exec (.execLine line) s := by
  cases line with
  | nil => cases h
  | cons op payload =>
    cases h
    exact exec_selectOpcode op payload s

/-- Settles O5: the turn takes the terminator, which executes the line. -/
theorem stepExecutesDecodedLine : Obligations.StepExecutesDecodedLine := by
  intro s rest b bs i ht hp hin hb hdec
  have hne : s.lb ≠ [] := by
    intro hlb
    rw [hlb] at hdec
    cases hdec
  calc step s = exec (.frmByte b) { s with turns := rest, ret := .none, hinText := bs } :=
        step_eq_exec ht (fetchTurn_hrx_byte hp hin) rfl ⟨_, exec_frmByte_of_text hp⟩
    _ = exec (.execLine s.lb) { s with turns := rest, ret := .none, hinText := bs, lb := [] } :=
        exec_frmByte_line hb hne
    _ = exec i { s with turns := rest, ret := .none, hinText := bs, lb := [] } := (exec_of_decodeLine hdec _).symm

/-! ### The packet framer: the loop run to its end (42_framers.md R184) -/

/-- One round of the loop: the first record of the buffer is executed with the rest buffered. -/
def extractOne (s : State) : State :=
  runRecord (s.rb.take (hfSize s.cfg.hfLayout)) { s with rb := s.rb.drop (hfSize s.cfg.hfLayout) }

/-- The loop, run as long as a whole record is buffered. -/
def extractAll (s : State) : State := extractRecords s.rb.length s

/-- `RB <- RB ++ p`. -/
def State.buffer (s : State) (p : List Byte) : State := { s with rb := s.rb ++ p }

@[simp] theorem State.buffer_nil (s : State) : s.buffer [] = s := by rw [buffer, List.append_nil]

theorem State.buffer_append (s : State) (p q : List Byte) : s.buffer (p ++ q) = (s.buffer p).buffer q := by
  rw [buffer, ← List.append_assoc]
  rfl

/-- A packet is buffered, then the loop runs. -/
theorem framePacket_eq_extractAll (p : List Byte) (s : State) : framePacket p s = extractAll (s.buffer p) := rfl

theorem framePacket_nil (s : State) : framePacket [] s = extractAll s := by
  rw [framePacket_eq_extractAll, State.buffer_nil]

@[simp] theorem extractOne_cfg (s : State) : (extractOne s).cfg = s.cfg := runRecord_cfg _ _

@[simp] theorem extractOne_rb (s : State) : (extractOne s).rb = s.rb.drop (hfSize s.cfg.hfLayout) := by
  rw [extractOne, runRecord_frame]

theorem extractAll_short {s : State} (h : s.rb.length < hfSize s.cfg.hfLayout) : extractAll s = s :=
  extractRecords_short _ h

/-- Executing a record shortens the buffer. -/
theorem length_extractOne_rb_lt {s : State} (h : hfSize s.cfg.hfLayout ≤ s.rb.length) :
    (extractOne s).rb.length < s.rb.length := by
  have := hfSize_pos s.cfg.hfLayout
  rw [extractOne_rb, List.length_drop]
  omega

/-- The loop goes on after a record as from the start. -/
theorem extractAll_whole {s : State} (h : hfSize s.cfg.hfLayout ≤ s.rb.length) :
    extractAll s = extractAll (extractOne s) := by
  have hlt := length_extractOne_rb_lt h
  obtain ⟨n, hn⟩ := Nat.exists_eq_add_one_of_ne_zero (Nat.ne_zero_of_lt hlt)
  calc extractAll s = extractRecords n (extractOne s) := by
        rw [extractAll, hn, extractRecords, if_neg h.not_gt, extractOne]
    _ = extractAll (extractOne s) := extractRecords_fuel n _ (by omega)

/-- Induction along the loop: less than a record is buffered, or a record is executed. -/
theorem extractAll_induction {P : State → Prop} (short : ∀ s, s.rb.length < hfSize s.cfg.hfLayout → P s)
    (whole : ∀ s, hfSize s.cfg.hfLayout ≤ s.rb.length → P (extractOne s) → P s) (s : State) : P s := by
  by_cases h : s.rb.length < hfSize s.cfg.hfLayout
  · exact short s h
  · exact whole s (not_lt.1 h) (extractAll_induction short whole (extractOne s))
termination_by s.rb.length
decreasing_by exact length_extractOne_rb_lt (not_lt.1 h)

/-- What is left follows the whole records. -/
theorem extractAll_rb (s : State) :
    (extractAll s).rb = s.rb.drop (hfSize s.cfg.hfLayout * (s.rb.length / hfSize s.cfg.hfLayout)) := by
  induction s using extractAll_induction with
  | short s h => rw [extractAll_short h, Nat.div_eq_of_lt h, Nat.mul_zero, List.drop_zero]
  | whole s h ih =>
    rw [extractAll_whole h, ih, extractOne_cfg, extractOne_rb, List.drop_drop, List.length_drop,
      Nat.div_eq_sub_div (hfSize_pos _) h, Nat.mul_add_one, Nat.add_comm]

theorem length_extractAll_rb_lt (s : State) : (extractAll s).rb.length < hfSize s.cfg.hfLayout := by
  rw [extractAll_rb, List.length_drop, ← Nat.mod_eq_sub_mul_div]
  exact Nat.mod_lt _ (hfSize_pos _)

/-- Bytes that come behind a whole record do not change its execution. -/
theorem extractOne_buffer {s : State} (q : List Byte) (h : hfSize s.cfg.hfLayout ≤ s.rb.length) :
    extractOne (s.buffer q) = (extractOne s).buffer q := by
  simp only [extractOne, State.buffer, List.take_append_of_le_length h, List.drop_append_of_le_length h, runRecord_eq]
  rfl

/-- Bytes that come behind the buffer may as well come after the loop. -/
theorem extractAll_buffer (q : List Byte) (s : State) :
    extractAll (s.buffer q) = extractAll ((extractAll s).buffer q) := by
  induction s using extractAll_induction with
  | short s h => rw [extractAll_short h]
  | whole s h ih =>
    have hq : hfSize s.cfg.hfLayout ≤ (s.buffer q).rb.length := h.trans (by simp [State.buffer])
    rw [extractAll_whole hq, extractOne_buffer q h, ih, ← extractAll_whole h]

theorem framePacket_append (p q : List Byte) (s : State) :
    framePacket (p ++ q) s = framePacket q (framePacket p s) := by
  rw [framePacket_eq_extractAll, State.buffer_append, extractAll_buffer]
  rfl

/-! ### The packet framer: the instruction -/

theorem whenBinary_of_text {s : State} (h : s.cfg.proto = .text) (t : State) : whenBinary s t = .fault .onlyBinary := by
  simp [whenBinary, stepWhen, h]

theorem exec_frmPacket_of_binary {s : State} (h : s.cfg.proto = .binary) (p : List Byte) :
    exec (.frmPacket p) s = .next (framePacket p s) := whenBinary_of_binary h _

theorem exec_frmPacket_of_text {s : State} (h : s.cfg.proto = .text) (p : List Byte) :
    exec (.frmPacket p) s = .fault .onlyBinary := whenBinary_of_text h _

theorem exec_execRecord_of_binary {s : State} {bytes : List Byte} (h : s.cfg.proto = .binary)
    (hlen : bytes.length = hfSize s.cfg.hfLayout) : exec (.execRecord bytes) s = .next (runRecord bytes s) :=
  (if_pos hlen).trans (whenBinary_of_binary h _)

/-- Settles O27: the packet is buffered, and the loop ends at once or executes the first record and goes on. -/
theorem packetLoop : Obligations.PacketLoop := by
  intro p s buf size
  refine ⟨fun hp hshort => ?short, fun hp hwhole => ?whole, fun hp => ?rest, fun hp => exec_frmPacket_of_text hp p⟩
  case short =>
    rw [exec_frmPacket_of_binary hp, framePacket_eq_extractAll, extractAll_short hshort]
    rfl
  case whole =>
    refine ⟨extractOne (s.buffer p), exec_execRecord_of_binary hp (List.length_take_of_le hwhole), ?_⟩
    have hp' : (extractOne (s.buffer p)).cfg.proto = .binary := by rw [extractOne_cfg]; exact hp
    rw [exec_frmPacket_of_binary hp, exec_frmPacket_of_binary hp', framePacket_nil, framePacket_eq_extractAll,
      extractAll_whole hwhole]
  case rest => exact ⟨_, exec_frmPacket_of_binary hp p, length_extractAll_rb_lt (s.buffer p)⟩

/-- Settles O28: the loop takes the whole records off the buffer and touches what a record touches. -/
theorem packetLeavesLessThanARecord : Obligations.PacketLeavesLessThanARecord := fun p s hp =>
  ⟨framePacket p s, exec_frmPacket_of_binary hp p, length_extractAll_rb_lt (s.buffer p), extractAll_rb (s.buffer p),
    framePacket_frame p s⟩

/-- Settles O29: in Binary the second packet goes on where the first one ends; in Text no packet completes. -/
theorem packetGroupingHasNoEffect : Obligations.PacketGroupingHasNoEffect := by
  intro p q s t h
  cases hp : s.cfg.proto with
  | text =>
    rw [exec_frmPacket_of_text hp] at h
    cases h
  | binary =>
    rw [exec_frmPacket_of_binary hp] at h
    cases h
    have hp' : (framePacket p s).cfg.proto = .binary := by rw [framePacket_cfg]; exact hp
    rw [exec_frmPacket_of_binary hp, exec_frmPacket_of_binary hp', framePacket_append]

end Sys2Proof.Machine

/-! PROOFS. The bus-state machine (43_bus_state_machine.md). First each operation by itself, then what every instruction
does to `BUS_STATE` and to the driver calls with the runs that follow from it, then the invariant of the block. -/

namespace Sys2Proof.Machine

/-! ### Each operation by itself -/

theorem stepWhen_enabled {e : Bool} (h : e = true) (why : Fault) (t : State) : stepWhen e why t = .next t := if_pos h

theorem stepWhen_disabled {e : Bool} (h : e = false) (why : Fault) (t : State) : stepWhen e why t = .fault why := by
  rw [h]
  rfl

theorem exec_configure (t : BitTiming) (s : State) :
    exec (.configure t) s = .next ((configure t s).2.setRet (.ctl (configure t s).1)) := rfl

theorem exec_cmdClose (s : State) : exec .cmdClose s = .next ((cmdClose s).setRet (.ctl .ok)) := rfl

theorem exec_cmdOpen (s : State) : exec .cmdOpen s = .next ((cmdOpen s).2.setRet (.ctl (cmdOpen s).1)) := rfl

theorem exec_txGate (f : CanFrame) (s : State) :
    exec (.txGate f) s = .next ((txGate f s).2.setRet (.tx (txGate f s).1)) := rfl

/-- Settles O35, by the equation of `CONFIGURE` in each pair of answers. -/
theorem configureRestartsTheInstance : Obligations.ConfigureRestartsTheInstance := by
  intro e s s0 calls
  rw [exec_configure, configure_eq]
  refine ⟨fun hinstall => ?_, fun hinstall hstart => ?_, fun hinstall hstart => ?_⟩
  · rw [hinstall]
    rfl
  · rw [hinstall, hstart]
    rfl
  · rw [hinstall, hstart]
    rfl

/-- Settles O36, by the equation of `CMD_CLOSE`. -/
theorem closeStopsTheInstance : Obligations.CloseStopsTheInstance := by
  intro s
  rw [exec_cmdClose, cmdClose_eq]
  rfl

theorem cmdOpen_invalid {s : State} (h : s.btValid = false) :
    cmdOpen s = (.err .notConfigured, s.raiseCtrl .notConfigured) := by
  rw [cmdOpen, h]
  rfl

theorem cmdOpen_valid {s : State} (h : s.btValid = true) : cmdOpen s = configure s.bt s := if_pos h

/-- Settles O37: the command looks at `BT_VALID` and fails, or configures with `BT`. -/
theorem openConfiguresWithCurrentTiming : Obligations.OpenConfiguresWithCurrentTiming := by
  intro s
  refine ⟨fun h => ?_, fun h => ⟨?_, _, exec_cmdOpen s⟩⟩
  · rw [exec_cmdOpen, cmdOpen_invalid h]
    rfl
  · rw [exec_cmdOpen, cmdOpen_valid h, exec_configure]

/-- Settles O38, by the gate outside `Open` and in it; the caller's result is `txOutcome` of the answer. -/
theorem transmitGate : Obligations.TransmitGate := by
  intro f s _
  refine ⟨fun h => ?_, fun h => ?_⟩
  · rw [exec_txGate, txGate_notOpen f h]
    rfl
  · rw [exec_txGate, txGate_opened f h]
    cases s.transmitAnswer <;> rfl

/-- Settles O39. -/
theorem busOffReport : Obligations.BusOffReport := fun _ =>
  ⟨fun h => congrArg _ (if_pos h), fun h => congrArg _ (if_neg h)⟩

/-- Settles O40, by the enabling condition. -/
theorem recoveryStart : Obligations.RecoveryStart := by
  intro s
  refine ⟨fun hbus hreq => stepWhen_enabled ?_ _ _, fun h => stepWhen_disabled ?_ _ _⟩
  · simp [hbus, hreq]
  · obtain hbus | hreq := h
    · simp [hbus]
    · simp [hreq]

/-- Settles O41. -/
theorem recoveryDone : Obligations.RecoveryDone := fun _ =>
  ⟨fun h => congrArg _ (if_pos h), fun h => congrArg _ (if_neg h)⟩

/-- Settles O42, by the enabling condition. -/
theorem recoveryTimeout : Obligations.RecoveryTimeout := fun _ =>
  ⟨fun h => stepWhen_enabled (decide_eq_true h) _ _, fun h => stepWhen_disabled (decide_eq_false h) _ _⟩

/-- A fatal error outside `Closed` is a close that is recorded (43_bus_state_machine.md R215). -/
theorem exec_evFatal_running {s : State} (h : s.busState ≠ .closed) :
    exec .evFatal s = .next ((cmdClose s).raiseCtrl .fatal) := congrArg _ (if_neg h)

/-- Settles O43: outside `Closed` the error closes as `CMD_CLOSE` does. -/
theorem fatalErrorCloses : Obligations.FatalErrorCloses := by
  refine fun s => ⟨fun h => ?_, fun h => congrArg _ (if_pos h)⟩
  rw [exec_evFatal_running h, cmdClose_eq]
  simp [h, teardownCalls, State.raiseCtrl]

theorem exec_cmdCheck_busOff {s : State} (h : s.busState = .busOff) :
    exec .cmdCheck s = .next { s with recReq := true } := congrArg _ (if_pos h)

theorem exec_cmdCheck_notBusOff {s : State} (h : s.busState ≠ .busOff) : exec .cmdCheck s = .next s :=
  congrArg _ (if_neg h)

/-- Settles O44: a second check finds the request that the first one left. -/
theorem checkRequestsRecovery : Obligations.CheckRequestsRecovery := by
  refine ⟨fun s h => exec_cmdCheck_busOff h, fun s h => exec_cmdCheck_notBusOff h, fun s t h => ?_⟩
  by_cases hb : s.busState = .busOff
  · rw [exec_cmdCheck_busOff hb] at h
    cases h
    exact exec_cmdCheck_busOff (s := { s with recReq := true }) hb
  · rw [exec_cmdCheck_notBusOff hb] at h
    cases h
    exact exec_cmdCheck_notBusOff hb

/-! ### A bus-off and its recovery -/

/-- Outside `Open` a line that decodes to a frame is counted and answered by the error token
(44_dispatch_and_forwarding.md R241). -/
theorem runLine_frame_notOpen {r : ParseResult} {f : CanFrame} {s : State} (hr : r = .ok (.frame f))
    (h : s.busState ≠ .opened) :
    runLine r s = { s with
      txDropCnt := s.txDropCnt + 1, hout := s.hout ++ [nakUnit], ret := .decoded (.ok (.frame f)) } := by
  have hgate := txGate_notOpen f h
  rw [hr, runLine, runDecoded, runFrame_refused (by simp [hgate]), hgate]
  rfl

/-- Outside `Open` a record reaches no driver and is counted (44_dispatch_and_forwarding.md R248). -/
theorem runRecord_notOpen (bytes : List Byte) {s : State} (h : s.busState ≠ .opened) :
    runRecord bytes s = { s with
      hfDefect := s.hfDefect || !hostframeWellformed bytes, txDropCnt := s.txDropCnt + 1 } := by
  rw [runRecord_eq]
  simp [h]

/-- Settles O48: the three steps by their own statements, the refusals by the bus not being `Open`. -/
theorem recoveryScenario : Obligations.RecoveryScenario := by
  intro s f hopen hf
  have hoff := (busOffReport s).1 hopen
  refine ⟨_, _, _, hoff, (recoveryStart _).1 rfl rfl, (recoveryDone _).1 rfl, rfl, rfl, rfl, rfl, rfl, rfl, rfl, rfl,
    fun u hu => ?_⟩
  have hbus : u.busState ≠ .opened := by
    obtain rfl | rfl := hu <;> nofun
  refine ⟨(transmitGate f u hf).1 hbus, fun hp line hdec => ?_, fun bytes hp hlen => ?_⟩
  · exact (whenText_of_text hp _).trans (congrArg _ (runLine_frame_notOpen hdec hbus))
  · rw [exec_execRecord_of_binary hp hlen, runRecord_notOpen bytes hbus]

/-! ### What an instruction does to `BUS_STATE` and to the driver calls -/

/-- From `s` to `t` the bus state stays, and the only calls made are transmits of R206, in `Open`. -/
def OnlySends (s t : State) : Prop :=
  t.busState = s.busState ∧ ∃ calls : List DrvCall, t.drvLog = s.drvLog ++ calls ∧
    ∀ c ∈ calls, s.busState = .opened ∧ ∃ f, c = .transmit f s.cfg.txTimeoutMs

/-- From `s` to `t` the bus is closed, or a configure fails: no transmit. -/
def Closes (s t : State) : Prop :=
  t.busState = .closed ∧ ∃ calls : List DrvCall, t.drvLog = s.drvLog ++ calls ∧ ∀ f ms, .transmit f ms ∉ calls

/-- From `s` to `t` a configure succeeds (43_bus_state_machine.md R203). -/
def Configures (s t : State) : Prop :=
  t.busState = .opened ∧
    ∃ e : BitTiming, t.drvLog = s.drvLog ++ teardownCalls s.busState ++ [.install e, .start]

/-- What an operation that is no event of a recovery does to the bus state and to the driver calls. -/
def BusEffect (s t : State) : Prop := OnlySends s t ∨ Closes s t ∨ Configures s t

theorem OnlySends.of_eq {s t : State} (hbus : t.busState = s.busState) (hlog : t.drvLog = s.drvLog) : OnlySends s t :=
  ⟨hbus, [], by rw [hlog, List.append_nil], nofun⟩

theorem OnlySends.trans {s t u : State} (h : OnlySends s t) (hcfg : t.cfg = s.cfg) (h' : OnlySends t u) :
    OnlySends s u := by
  obtain ⟨hbus, calls, hlog, hcalls⟩ := h
  obtain ⟨hbus', calls', hlog', hcalls'⟩ := h'
  rw [hbus, hcfg] at hcalls'
  refine ⟨hbus'.trans hbus, calls ++ calls', by rw [hlog', hlog, List.append_assoc], fun c hc => ?_⟩
  exact (List.mem_append.1 hc).elim (hcalls c) (hcalls' c)

theorem BusEffect.of_eq {s t : State} (hbus : t.busState = s.busState) (hlog : t.drvLog = s.drvLog) : BusEffect s t :=
  .inl (.of_eq hbus hlog)

theorem not_transmit_mem_teardownCalls (b : BusState) (f : CanFrame) (ms : Nat) :
    .transmit f ms ∉ teardownCalls b := by
  unfold teardownCalls
  split_ifs <;> simp

theorem txGate_onlySends (f : CanFrame) (s : State) : OnlySends s (txGate f s).2 := by
  by_cases h : s.busState = .opened
  · rw [txGate_opened f h]
    refine ⟨rfl, _, rfl, fun c hc => ⟨h, f, List.mem_singleton.1 hc⟩⟩
  · rw [txGate_notOpen f h]
    exact .of_eq rfl rfl

theorem runRecord_onlySends (bytes : List Byte) (s : State) : OnlySends s (runRecord bytes s) := by
  by_cases h : s.busState = .opened
  · refine ⟨by rw [runRecord_frame], [.transmit (decodeHostframe s.cfg.hfLayout bytes) s.cfg.txTimeoutMs], ?_,
      fun c hc => ⟨h, _, List.mem_singleton.1 hc⟩⟩
    rw [runRecord_eq]
    exact if_pos h
  · rw [runRecord_notOpen bytes h]
    exact .of_eq rfl rfl

/-- Each record of a packet may send; induction along the loop. -/
theorem extractAll_onlySends (s : State) : OnlySends s (extractAll s) := by
  induction s using extractAll_induction with
  | short s h =>
    rw [extractAll_short h]
    exact .of_eq rfl rfl
  | whole s h ih =>
    rw [extractAll_whole h]
    have hone : OnlySends s (extractOne s) := runRecord_onlySends _ { s with rb := s.rb.drop (hfSize s.cfg.hfLayout) }
    exact hone.trans (extractOne_cfg s) ih

theorem framePacket_onlySends (p : List Byte) (s : State) : OnlySends s (framePacket p s) :=
  extractAll_onlySends (s.buffer p)

theorem cmdClose_closes (s : State) : Closes s (cmdClose s) := by
  rw [cmdClose_eq]
  exact ⟨rfl, _, rfl, not_transmit_mem_teardownCalls s.busState⟩

theorem configure_busEffect (t : BitTiming) (s : State) : BusEffect s (configure t s).2 := by
  have hnone := not_transmit_mem_teardownCalls s.busState
  rw [configure_eq]
  cases s.installAnswer with
  | fail => exact .inr (.inl ⟨rfl, teardownCalls s.busState ++ [.install t], List.append_assoc .., by simp [hnone]⟩)
  | ok =>
    cases s.startAnswer with
    | fail =>
      exact .inr (.inl ⟨rfl, teardownCalls s.busState ++ [.install t, .start, .uninstall], by simp, by simp [hnone]⟩)
    | ok => exact .inr (.inr ⟨rfl, t, by simp⟩)

theorem cmdOpen_busEffect (s : State) : BusEffect s (cmdOpen s).2 := by
  cases h : s.btValid with
  | false =>
    rw [cmdOpen_invalid h]
    exact .of_eq rfl rfl
  | true =>
    rw [cmdOpen_valid h]
    exact configure_busEffect s.bt s

theorem runFrame_onlySends (f : CanFrame) (s : State) : OnlySends s (runFrame f s) := by
  by_cases h : (txGate f s).1 = .ok
  · rw [runFrame_sent h]
    exact txGate_onlySends f s
  · rw [runFrame_refused h]
    exact txGate_onlySends f s

theorem applyTiming_busEffect (t : BitTiming) (s : State) : BusEffect s (applyTiming t s) := by
  by_cases h : s.busState = .closed
  · rw [applyTiming_closed t h]
    exact .of_eq rfl rfl
  · rw [applyTiming_running t h]
    exact configure_busEffect t (s.writeTiming t)

theorem runSetBitrate_busEffect (n : Fin 9) (s : State) : BusEffect s (runSetBitrate n s) := by
  obtain h | ⟨t, h | h⟩ := runSetBitrate_cases n s <;> rw [h]
  · exact .of_eq rfl rfl
  · exact applyTiming_busEffect t s
  · exact applyTiming_busEffect t s.setWarn

theorem runLine_busEffect (r : ParseResult) (s : State) : BusEffect s (runLine r s) := by
  match r with
  | .err _ | .ok (.control .versionHw) | .ok (.control .versionSw) => exact .of_eq rfl rfl
  | .ok (.frame f) => exact .inl (runFrame_onlySends f s)
  | .ok (.control .openBus) => exact cmdOpen_busEffect s
  | .ok (.control .closeBus) => exact .inr (.inl (cmdClose_closes s))
  | .ok (.control (.setBitrate n)) => exact runSetBitrate_busEffect n s

theorem frameByte_busEffect (b : Byte) (s : State) : BusEffect s (frameByte b s) := by
  obtain h | h | h := frameByte_cases b s <;> rw [h]
  · exact .of_eq rfl rfl
  · exact runLine_busEffect (decodeSlcan s.lb) { s with lb := [] }
  · exact .of_eq rfl rfl

/-- What a completing instruction does to the bus state and to the driver calls. -/
inductive BusStep (s : State) : Instr → State → Prop
  | effect {i : Instr} {t : State} (h : BusEffect s t) : BusStep s i t
  /-- 43_bus_state_machine.md R210. -/
  | busOff (h : s.busState = .opened) : BusStep s .evBusoff { s with busState := .busOff, recReq := true }
  /-- 43_bus_state_machine.md R211. -/
  | recStart (h : s.busState = .busOff) (hreq : s.recReq = true) :
      BusStep s .recStart { s.call .initiateRecovery with recReq := false, busState := .recovering, recTimer := true }
  /-- 43_bus_state_machine.md R212. -/
  | recDone (h : s.busState = .recovering) :
      BusStep s .evRecDone { s with busState := .opened, recResult := .ok, recTimer := false }
  /-- 43_bus_state_machine.md R213. -/
  | recTimeout (h : s.busState = .recovering) :
      BusStep s .evRecTimeout ({ s with busState := .busOff, recResult := .timeout, recTimer := false }.raiseCtrl
        .recoveryTimeout)

theorem OnNext.stepWhen_of {P : State → Prop} {t : State} {e : Bool} {why : Fault} (h : e = true → P t) :
    OnNext P (Machine.stepWhen e why t) := by
  cases e with
  | false => exact fault why
  | true => exact next (h rfl)

theorem exec_busStep (i : Instr) (s : State) : OnNext (BusStep s i) (exec i s) := by
  cases i with
  | slDataStd _ | slDataExt _ | slRemoteStd _ | slRemoteExt _ | slOpen _ | slClose _ | slSetBitrate _ | slVersionHw _
  | slVersionSw _ | slUnknown _ _ | execLine _ => exact .whenText (.effect (runLine_busEffect _ s))
  | frmByte b => exact .whenText (.effect (frameByte_busEffect b s))
  | ack | nak | verHw | verSw => exact .whenText (.effect (.of_eq rfl rfl))
  | decHostframe _ => exact .onRecord (.next (.effect (.of_eq rfl rfl)))
  | encHostframe _ _ | encSlcan _ => exact .next (.effect (.of_eq rfl rfl))
  | execRecord bytes => exact .onRecord (.whenBinary (.effect (.inl (runRecord_onlySends bytes s))))
  | frmPacket p => exact .whenBinary (.effect (.inl (framePacket_onlySends p s)))
  | hostFormat _ | setBittiming _ | btConst | deviceConfig | ctlOther =>
    exact .whenBinary (.effect (.of_eq rfl rfl))
  | modeStart => exact .whenBinary (.effect (cmdOpen_busEffect s))
  | modeStop => exact .whenBinary (.effect (.inr (.inl (cmdClose_closes s))))
  | configure t => exact .next (.effect (configure_busEffect t s))
  | cmdClose => exact .next (.effect (.inr (.inl (cmdClose_closes s))))
  | cmdOpen => exact .next (.effect (cmdOpen_busEffect s))
  | txGate f => exact .next (.effect (.inl (txGate_onlySends f s)))
  | evBusoff =>
    refine .next ?_
    split_ifs with h
    · exact .busOff h
    · exact .effect (.of_eq rfl rfl)
  | recStart =>
    refine .stepWhen_of fun h => ?_
    obtain ⟨hbus, hreq⟩ : s.busState = .busOff ∧ s.recReq = true := by simpa using h
    exact .recStart hbus hreq
  | evRecDone =>
    refine .next ?_
    split_ifs with h
    · exact .recDone h
    · exact .effect (.of_eq rfl rfl)
  | evRecTimeout => exact .stepWhen_of fun h => .recTimeout (of_decide_eq_true h)
  | evFatal =>
    refine .next ?_
    split_ifs
    · exact .effect (.of_eq rfl rfl)
    · exact .effect (.inr (.inl (cmdClose_closes s)))
  | cmdCheck => exact .next (by split_ifs <;> exact .effect (.of_eq rfl rfl))
  | evBusRx f => exact .stepWhen (by split_ifs <;> exact .effect (.of_eq rfl rfl))
  | htxPop => exact .htxPop fun _ _ _ => .effect (.of_eq rfl rfl)

/-- Settles O46: only the gate calls `transmit`, in `Open`; closing, configuring and recovery make other calls. -/
theorem transmitCalledOnlyWhenOpen : Obligations.TransmitCalledOnlyWhenOpen := by
  intro i s t h
  cases exec_busStep i s t h with
  | effect heffect =>
    obtain ⟨-, calls, hlog, hcalls⟩ | ⟨-, calls, hlog, hcalls⟩ | ⟨-, e, hlog⟩ := heffect
    · refine ⟨calls, hlog, fun f ms hmem => ?_⟩
      obtain ⟨hopen, g, hg⟩ := hcalls _ hmem
      cases hg
      exact ⟨hopen, rfl⟩
    · exact ⟨calls, hlog, fun f ms hmem => absurd hmem (hcalls f ms)⟩
    · refine ⟨teardownCalls s.busState ++ [.install e, .start], hlog.trans (List.append_assoc ..), fun f ms hmem => ?_⟩
      simp [not_transmit_mem_teardownCalls] at hmem
  | busOff _ | recDone _ | recTimeout _ => exact ⟨[], (List.append_nil _).symm, nofun⟩
  | recStart _ _ => exact ⟨[.initiateRecovery], rfl, by simp⟩

/-! ### The ways into a bus state, by an instruction and in a run -/

/-- What a turn fetches: the operation it names, or what the input streams hold. -/
theorem fetchTurn_cases {t : Turn} {s s1 : State} {i : Instr} (h : fetchTurn t s = some (i, s1)) :
    t = .op i ∨ (s.cfg.proto = .text ∧ ∃ b, i = .frmByte b) ∨
      (s.cfg.proto = .binary ∧ ((∃ p, i = .frmPacket p) ∨ ∃ c, i = ctlInstr c)) := by
  cases t with
  | hrx =>
    refine .inr ?_
    unfold fetchTurn at h
    dsimp only at h
    (repeat' split at h) <;> cases h
    · exact .inl ⟨‹_›, _, rfl⟩
    · exact .inr ⟨‹_›, .inl ⟨_, rfl⟩⟩
  | ctl =>
    unfold fetchTurn at h
    dsimp only at h
    split at h <;> cases h
    exact .inr (.inr ⟨‹_›, .inr ⟨_, rfl⟩⟩)
  | op j =>
    cases h
    exact .inl rfl

/-- No operation of an agent's own turn comes from a stream. -/
theorem fetchTurn_event {t : Turn} {s s1 : State} {i : Instr} (h : fetchTurn t s = some (i, s1))
    (hi : agentTurn (.op i) = true) : t = .op i := by
  obtain ht | ⟨-, b, rfl⟩ | ⟨-, ⟨p, rfl⟩ | ⟨c, rfl⟩⟩ := fetchTurn_cases h
  · exact ht
  · cases hi
  · cases hi
  · cases c <;> cases hi

/-- The ways of 43_bus_state_machine.md R200 into the bus state of `t`, for an instruction that comes from another. -/
def EntersAsAllowed (i : Instr) (s t : State) : Prop :=
  (t.busState = .busOff →
    (i = .evBusoff ∧ s.busState = .opened) ∨ (i = .evRecTimeout ∧ s.busState = .recovering)) ∧
  (t.busState = .recovering → i = .recStart ∧ s.busState = .busOff ∧ s.recReq = true) ∧
  (t.busState = .opened →
    (i = .evRecDone ∧ s.busState = .recovering) ∨
      ∃ e : BitTiming, t.drvLog = s.drvLog ++ teardownCalls s.busState ++ [.install e, .start])

theorem exec_enters {i : Instr} {s t : State} (h : exec i s = .next t) (hne : t.busState ≠ s.busState) :
    EntersAsAllowed i s t := by
  cases exec_busStep i s t h with
  | effect heffect =>
    obtain ⟨hbus, -⟩ | ⟨hbus, -⟩ | ⟨hbus, hcalls⟩ := heffect
    · exact absurd hbus hne
    · simp [EntersAsAllowed, hbus]
    · refine ⟨?_, ?_, fun _ => .inr hcalls⟩ <;> simp [hbus]
  | busOff hopen => exact ⟨fun _ => .inl ⟨rfl, hopen⟩, nofun, nofun⟩
  | recStart hoff hreq => exact ⟨nofun, fun _ => ⟨rfl, hoff, hreq⟩, nofun⟩
  | recDone hrec => exact ⟨nofun, nofun, fun _ => .inl ⟨rfl, hrec⟩⟩
  | recTimeout hrec => exact ⟨fun _ => .inr ⟨rfl, hrec⟩, nofun, nofun⟩

/-- A sequence of states that comes from another bus state to `b` has a step that enters `b`. -/
theorem exists_entry {ρ : Nat → State} {b : BusState} {m n : Nat} (hmn : m ≤ n) (hm : (ρ m).busState ≠ b)
    (hn : (ρ n).busState = b) :
    ∃ k, m ≤ k ∧ k < n ∧ (ρ (k + 1)).busState ≠ (ρ k).busState ∧ (ρ (k + 1)).busState = b := by
  induction hmn with
  | refl => exact absurd hn hm
  | @step n hmn ih =>
    by_cases hlast : (ρ n).busState = b
    · obtain ⟨k, hmk, hkn, hentry⟩ := ih hlast
      exact ⟨k, hmk, by omega, hentry⟩
    · exact ⟨n, hmn, by omega, by rw [hn]; exact Ne.symm hlast, hn⟩

section
variable {ρ : Nat → State} (hrun : Run ρ)
include hrun

/-- The events that enter `BusOff` and `Open` in a run are the turns of those steps. -/
theorem Run.enters {n : Nat} (hne : (ρ (n + 1)).busState ≠ (ρ n).busState) :
    ((ρ (n + 1)).busState = .busOff →
      busOffAt ρ n ∨ (takesAt ρ n (.op .evRecTimeout) ∧ (ρ n).busState = .recovering)) ∧
    ((ρ (n + 1)).busState = .opened →
      configuredAt ρ n ∨ (takesAt ρ n (.op .evRecDone) ∧ (ρ n).busState = .recovering)) := by
  obtain ⟨u, hstep, hsup⟩ := hrun.steps n
  have hbus' : (ρ (n + 1)).busState = u.busState := by rw [hsup.frame]
  have hlog' : (ρ (n + 1)).drvLog = u.drvLog := by rw [hsup.frame]
  obtain ⟨-, rfl⟩ | ⟨t, rest, s1, ht, hs1, hexec⟩ := step_cases hstep
  · exact absurd hbus' hne
  have hbus : s1.busState = (ρ n).busState := by rw [hs1]
  have hlog : s1.drvLog = (ρ n).drvLog := by rw [hs1]
  obtain rfl | ⟨i, hfetch, hi⟩ := hexec
  · exact absurd (hbus'.trans hbus) hne
  have takes (hagent : agentTurn (.op i) = true) : takesAt ρ n (.op i) := by
    rw [takesAt, ht, fetchTurn_event hfetch hagent]
    rfl
  rw [hbus', ← hbus] at hne
  obtain ⟨hoff, -, hopen⟩ := exec_enters hi hne
  rw [hbus] at hoff hopen
  rw [busOffAt, configuredAt, hbus', hlog', ← hlog]
  refine ⟨fun h => ?_, fun h => ?_⟩
  · obtain ⟨rfl, hs⟩ | ⟨rfl, hs⟩ := hoff h
    · exact .inl ⟨takes rfl, hs⟩
    · exact .inr ⟨takes rfl, hs⟩
  · obtain ⟨rfl, hs⟩ | hcalls := hopen h
    · exact .inr ⟨takes rfl, hs⟩
    · exact .inl ⟨h, hcalls⟩

theorem Run.recovering_of_recoveryCallAt {n : Nat} (h : recoveryCallAt ρ n) :
    (ρ (n + 1)).busState = .recovering := by
  obtain ⟨htake, hbus, hreq⟩ := h
  obtain ⟨u, hstep, hsup⟩ := hrun.steps n
  obtain ⟨rest, ht⟩ := List.head?_eq_some_iff.1 htake
  cases hstep.symm.trans (step_op ht rfl ((recoveryStart ((ρ n).beginTurn rest)).1 hbus hreq))
  rw [hsup.frame]

end

/-- Settles O45. Between two recovery calls the run goes from `Recovering` to `BusOff`, by the timeout or by a bus-off
report in `Open`; then it has entered `Open` from `Recovering` before that. -/
theorem onlyTheseOperationsEnter : Obligations.OnlyTheseOperationsEnter := by
  refine ⟨fun i s t h hne => exec_enters h hne, fun ρ i j hrun hij hi hj => ?_⟩
  have hrec := hrun.recovering_of_recoveryCallAt hi
  obtain ⟨l, hil, hlj, hne, hoff⟩ := exists_entry (b := .busOff) hij (by simp [hrec]) hj.2.1
  obtain hreport | htimeout := (hrun.enters hne).1 hoff
  · obtain ⟨k, hik, hkl, hne, hopen⟩ := exists_entry (b := .opened) hil (by simp [hrec]) hreport.2
    exact .inr ⟨k, l, hik, hkl, hlj, hreport, (hrun.enters hne).2 hopen⟩
  · exact .inl ⟨l, hil, hlj, htimeout⟩

/-! ### What the invariant rests on in the shared operations -/

/-- Configuring begins with a close (43_bus_state_machine.md R203). -/
theorem configure_cmdClose (t : BitTiming) (s : State) : configure t (cmdClose s) = configure t s := by
  have hclosed : (cmdClose s).busState = .closed := by rw [cmdClose_eq]
  have hagain : (closeInstance (cmdClose s)).abandonRecovery = (closeInstance s).abandonRecovery := by
    rw [closeInstance, if_pos hclosed]
    rfl
  rw [configure, hagain, configure]

theorem cmdClose_writeTiming (t : BitTiming) (s : State) : cmdClose (s.writeTiming t) = (cmdClose s).writeTiming t := by
  rw [cmdClose_eq, cmdClose_eq]
  rfl

/-- Only the downgrade policy serves a code by the timing of another (44_dispatch_and_forwarding.md R246). -/
theorem fallback_of_timingFor {c : Config} {n : Nat} {t : BitTiming} (h : timingFor c n = some (t, true)) :
    c.fallback = .legacyDowngrade := by
  unfold timingFor at h
  cases hentry : timingEntry c n with
  | some e => simp [hentry] at h
  | none =>
    cases hf : c.fallback with
    | reject => simp [hentry, hf] at h
    | legacyDowngrade => rfl

/-! ### The invariant: single writes -/

namespace Inv
variable {s : State}

theorem setRet (h : Inv s) (r : Ret) : Inv (s.setRet r) := { h with }

theorem raiseCtrl (h : Inv s) (e : ControllerErr) : Inv (s.raiseCtrl e) := { h with }

theorem countTxDrop (h : Inv s) : Inv s.countTxDrop := { h with }

theorem countRxDrop (h : Inv s) : Inv s.countRxDrop := { h with }

theorem emit (h : Inv s) {u : List Byte} (hu : isHostUnit s.cfg u) : Inv (s.emit u) where
  __ := h
  houtUnits := by
    intro v hv
    obtain hv | hv := List.mem_append.1 hv
    · exact h.houtUnits v hv
    · rw [List.mem_singleton.1 hv]
      exact hu

theorem respond (h : Inv s) (hp : s.cfg.proto = .binary) (r : CtlResp) : Inv (s.respond r) where
  __ := h
  coutUnused := fun ht => by simp [hp] at ht

theorem setWarn (h : Inv s) (hf : s.cfg.fallback = .legacyDowngrade) : Inv s.setWarn where
  __ := h
  warnReject := fun hr => by simp [hf] at hr

/-- In Text the timing may change only while no driver is installed (10_state.md R31). -/
theorem writeTiming (h : Inv s) (hc : s.cfg.proto = .text → s.busState = .closed) (t : BitTiming) :
    Inv (s.writeTiming t) where
  __ := h
  btValid := fun _ => rfl
  instTiming := fun hp d hd => by
    have hinst : s.inst = some d := hd
    simp [h.instClosed (hc hp)] at hinst

/-! ### The invariant: the controller operations and the gate -/

theorem cmdClose (h : Inv s) : Inv (cmdClose s) := by
  have hinst : (if s.busState = .closed then s.inst else none) = none := by
    split_ifs with hc
    · exact h.instClosed hc
    · rfl
  rw [cmdClose_eq, hinst]
  exact { h with
    recReqBusOff := nofun
    btValid := fun hne => absurd rfl hne
    instClosed := fun _ => rfl
    instOpen := fun hne => absurd rfl hne
    instTiming := nofun
    timer := rfl }

/-- Configuring from `Closed` leaves no driver installed, or one started, in Text with the timing `BT`. -/
theorem configure_closed (h : Inv s) (hc : s.busState = .closed) (hv : s.btValid = true) {t : BitTiming}
    (ht : s.cfg.proto = .text → t = s.bt) : Inv (configure t s).2 := by
  have hinst := h.instClosed hc
  rw [configure_eq]
  cases s.installAnswer with
  | fail =>
    exact { h with
      recReqBusOff := nofun
      btValid := fun _ => hv
      instClosed := fun _ => (if_pos hc).trans hinst
      instOpen := fun hne => absurd rfl hne
      instTiming := fun _ d hd => by simp [hc, hinst] at hd
      timer := rfl }
  | ok =>
    cases s.startAnswer with
    | fail =>
      exact { h with
        recReqBusOff := nofun
        btValid := fun _ => hv
        instClosed := fun _ => rfl
        instOpen := fun hne => absurd rfl hne
        instTiming := nofun
        timer := rfl }
    | ok =>
      exact { h with
        recReqBusOff := nofun
        btValid := fun _ => hv
        instClosed := nofun
        instOpen := fun _ => ⟨t, rfl⟩
        instTiming := fun hp d hd => by
          cases hd
          exact ht hp
        timer := rfl }

theorem cmdOpen (h : Inv s) : Inv (cmdOpen s).2 := by
  cases hv : s.btValid with
  | false =>
    rw [cmdOpen_invalid hv]
    exact h.raiseCtrl _
  | true =>
    rw [cmdOpen_valid hv, ← configure_cmdClose]
    have hframe : (Machine.cmdClose s).bt = s.bt ∧ (Machine.cmdClose s).busState = .closed := by
      rw [cmdClose_eq]
      exact ⟨rfl, rfl⟩
    exact h.cmdClose.configure_closed hframe.2 (by rw [cmdClose_btValid, hv]) fun _ => hframe.1.symm

theorem txGate (h : Inv s) (f : CanFrame) : Inv (txGate f s).2 := by
  rw [txGate_frame]
  exact { h with }

/-! ### The invariant: units and packets -/

theorem ack (h : Inv s) (hp : s.cfg.proto = .text) : Inv (s.emit ackUnit) := h.emit (.inr ⟨hp, .inl rfl⟩)

theorem nak (h : Inv s) (hp : s.cfg.proto = .text) : Inv (s.emit nakUnit) := h.emit (.inr ⟨hp, .inr (.inl rfl)⟩)

theorem token (h : Inv s) (hp : s.cfg.proto = .text) (o : CtlOutcome) : Inv (s.emit (ctlToken o)) := by
  cases o
  · exact h.ack hp
  · exact h.nak hp

theorem runFrame (h : Inv s) (hp : s.cfg.proto = .text) (f : CanFrame) : Inv (runFrame f s) := by
  have hp' : (Machine.txGate f s).2.cfg.proto = .text := by rw [txGate_cfg, hp]
  by_cases hok : (Machine.txGate f s).1 = .ok
  · rw [runFrame_sent hok]
    exact (h.txGate f).ack hp'
  · rw [runFrame_refused hok]
    exact (h.txGate f).countTxDrop.nak hp'

/-- A stored timing is made effective at once (44_dispatch_and_forwarding.md R246). `BT` is not the timing of the running
driver between the two, so the close that configuring begins with is taken first. -/
theorem applyTiming (h : Inv s) (hp : s.cfg.proto = .text) (t : BitTiming) : Inv (applyTiming t s) := by
  by_cases hc : s.busState = .closed
  · rw [applyTiming_closed t hc]
    exact (h.writeTiming (fun _ => hc) t).ack hp
  · have hclosed : (Machine.cmdClose s).busState = .closed := by rw [cmdClose_eq]
    have hwritten : Inv ((Machine.cmdClose s).writeTiming t) := h.cmdClose.writeTiming (fun _ => hclosed) t
    rw [applyTiming_running t hc, ← configure_cmdClose, cmdClose_writeTiming]
    refine (hwritten.configure_closed hclosed rfl fun _ => rfl).token ?_ _
    simp [hp]

theorem runSetBitrate (h : Inv s) (hp : s.cfg.proto = .text) (n : Fin 9) : Inv (runSetBitrate n s) := by
  unfold Machine.runSetBitrate
  split
  · exact h.nak hp
  · exact h.applyTiming hp _
  · rename_i ht
    exact (h.setWarn (fallback_of_timingFor ht)).applyTiming hp _

theorem runLine (h : Inv s) (hp : s.cfg.proto = .text) (r : ParseResult) : Inv (runLine r s) := by
  refine setRet ?_ _
  match r with
  | .err _ => exact h.nak hp
  | .ok (.frame f) => exact h.runFrame hp f
  | .ok (.control .openBus) => exact h.cmdOpen.token (by rw [cmdOpen_cfg, hp]) _
  | .ok (.control .closeBus) => exact h.cmdClose.ack (by rw [cmdClose_cfg, hp])
  | .ok (.control (.setBitrate n)) => exact h.runSetBitrate hp n
  | .ok (.control .versionHw) => exact h.emit (.inr ⟨hp, .inr (.inr (.inl rfl))⟩)
  | .ok (.control .versionSw) => exact h.emit (.inr ⟨hp, .inr (.inr (.inr rfl))⟩)

theorem frameByte (h : Inv s) (hp : s.cfg.proto = .text) (b : Byte) : Inv (frameByte b s) := by
  by_cases hb : b = cr ∨ b = lf
  · by_cases hlb : s.lb = []
    · rw [frameByte_noLine hb hlb]
      exact h
    · rw [frameByte_line hb hlb]
      have hempty : Inv { s with lb := [] } :=
        { h with lbCap := Nat.zero_le _, lbClean := nofun, lbUnused := fun _ => rfl }
      exact hempty.runLine hp _
  · by_cases hroom : s.lb.length < lineCap
    · rw [frameByte_room hb hroom]
      exact { h with
        lbCap := by simpa using hroom
        lbClean := fun c hc => by
          obtain hc | hc := List.mem_append.1 hc
          · exact h.lbClean c hc
          · rw [List.mem_singleton.1 hc]
            simpa [isLineChar] using hb
        lbUnused := fun hbin => by simp [hp] at hbin }
    · rw [frameByte_full hb (not_lt.1 hroom)]
      exact h

/-- After the loop less than a record is buffered, and nothing else of the invariant was touched. -/
theorem framePacket (h : Inv s) (hp : s.cfg.proto = .binary) (p : List Byte) : Inv (framePacket p s) := by
  have hshort : (Machine.framePacket p s).rb.length < hfSize s.cfg.hfLayout := length_extractAll_rb_lt (s.buffer p)
  rw [framePacket_frame]
  exact { h with rbShort := hshort, rbUnused := fun ht => by simp [hp] at ht }

/-! ### The invariant: every instruction an agent runs -/

theorem exec_ctlInstr (h : Inv s) (hp : s.cfg.proto = .binary) (c : CtlCmd) : OnNext Inv (exec (ctlInstr c) s) := by
  cases c with
  | hostFormat _ | btConst | deviceConfig | other => exact .whenBinary (h.respond hp _)
  | setBittiming t => exact .whenBinary ((h.writeTiming (fun ht => by simp [hp] at ht) t).respond hp _)
  | modeStart => exact .whenBinary (h.cmdOpen.respond (by rw [cmdOpen_cfg, hp]) _)
  | modeStop => exact .whenBinary (h.cmdClose.respond (by rw [cmdClose_cfg, hp]) _)

theorem call (h : Inv s) (c : DrvCall) : Inv (s.call c) := { h with }

/-- From one bus state outside `Closed` to another the driver stays as it is; what is left to show is the request and the
timer. -/
theorem enter (h : Inv s) {b : BusState} {r : RecResult} {req timer : Bool} (hs : s.busState ≠ .closed)
    (hb : b ≠ .closed) (hreq : req = true → b = .busOff) (htimer : timer = (b == .recovering)) :
    Inv { s with busState := b, recReq := req, recResult := r, recTimer := timer } :=
  { h with
    recReqBusOff := hreq
    btValid := fun _ => h.btValid hs
    instClosed := fun hc => absurd hc hb
    instOpen := fun _ => h.instOpen hs
    timer := htimer }

/-- Outside `BusOff` no recovery is requested. -/
theorem recReq_eq_false (h : Inv s) (hb : s.busState ≠ .busOff) : s.recReq = false :=
  Bool.eq_false_iff.2 (mt h.recReqBusOff hb)

theorem execEvBusoff (h : Inv s) : OnNext Inv (execEvBusoff s) := by
  refine .next ?_
  split_ifs with hopen
  · exact h.enter (by simp [hopen]) nofun (fun _ => rfl) (by simp [h.timer, hopen])
  · exact h

theorem execRecStart (h : Inv s) : OnNext Inv (execRecStart s) := by
  refine .stepWhen_of fun henabled => ?_
  obtain ⟨hoff, -⟩ : s.busState = .busOff ∧ s.recReq = true := by simpa using henabled
  exact (h.call .initiateRecovery).enter (by simp [State.call, hoff]) nofun nofun rfl

theorem execEvRecDone (h : Inv s) : OnNext Inv (execEvRecDone s) := by
  refine .next ?_
  split_ifs with hrec
  · exact h.enter (by simp [hrec]) nofun (by simp [h.recReq_eq_false, hrec]) rfl
  · exact h

theorem execEvRecTimeout (h : Inv s) : OnNext Inv (execEvRecTimeout s) := by
  refine .stepWhen_of fun henabled => ?_
  have hrec := of_decide_eq_true henabled
  exact (h.enter (b := .busOff) (by simp [hrec]) nofun (fun _ => rfl) rfl).raiseCtrl _

theorem execEvFatal (h : Inv s) : OnNext Inv (execEvFatal s) := by
  refine .next ?_
  split_ifs
  · exact h
  · exact h.cmdClose.raiseCtrl .fatal

theorem execCmdCheck (h : Inv s) : OnNext Inv (execCmdCheck s) := by
  refine .next ?_
  split_ifs with hoff
  · exact { h with recReqBusOff := fun _ => hoff }
  · exact h

theorem execEvBusRx (h : Inv s) {f : CanFrame} (hf : f.valid = true) : OnNext Inv (execEvBusRx f s) := by
  refine .stepWhen ?_
  split_ifs with hroom
  · exact { h with
      oqCap := by simpa using hroom
      oqUnits := fun u hu => by
        obtain hu | hu := List.mem_append.1 hu
        · exact h.oqUnits u hu
        · exact ⟨f, hf, List.mem_singleton.1 hu⟩ }
  · exact h.countRxDrop

/-- The writer moves an encoded frame, which is a unit of `HOUT`. -/
theorem execHtxPop (h : Inv s) : OnNext Inv (execHtxPop s) := by
  refine .htxPop fun u rest hq => ?_
  have htail : Inv { s with oq := rest } := { h with
    oqCap := by
      have hcap := h.oqCap
      rw [hq, List.length_cons] at hcap
      exact (Nat.le_succ _).trans hcap
    oqUnits := fun v hv => h.oqUnits v (by rw [hq]; exact List.mem_cons_of_mem u hv) }
  exact htail.emit (.inl (h.oqUnits u (by rw [hq]; exact List.mem_cons_self)))

theorem exec_agentOp (h : Inv s) {i : Instr} (hi : agentTurn (.op i) = true) : OnNext Inv (exec i s) := by
  cases i with
  | evBusoff => exact h.execEvBusoff
  | recStart => exact h.execRecStart
  | evRecDone => exact h.execEvRecDone
  | evRecTimeout => exact h.execEvRecTimeout
  | evFatal => exact h.execEvFatal
  | cmdCheck => exact h.execCmdCheck
  | evBusRx f => exact h.execEvBusRx hi
  | htxPop => exact h.execHtxPop
  | _ => cases hi

end Inv

/-- Settles O3: a turn of an agent runs the operation it names, or in each protocol what that protocol's streams hold,
and each of these keeps the invariant. -/
theorem stepKeepsInvariant : Obligations.StepKeepsInvariant := by
  intro s u h hstep
  obtain ⟨-, rfl⟩ | ⟨t, rest, s1, ht, hs1, hrun⟩ := step_cases hstep
  · exact h
  have hagents : ∀ t' ∈ t :: rest, agentTurn t' = true := by
    rw [← ht]
    exact h.turns
  have hbegun : Inv s1 := by
    rw [hs1]
    exact { h with turns := fun t' ht' => hagents t' (List.mem_cons_of_mem t ht') }
  obtain rfl | ⟨i, hfetch, hexec⟩ := hrun
  · exact hbegun
  have hproto : s1.cfg.proto = (s.beginTurn rest).cfg.proto := by
    rw [hs1]
    rfl
  refine (?_ : OnNext Inv (exec i s1)) u hexec
  obtain rfl | ⟨hp, b, rfl⟩ | ⟨hp, ⟨p, rfl⟩ | ⟨c, rfl⟩⟩ := fetchTurn_cases hfetch
  · exact hbegun.exec_agentOp (hagents _ List.mem_cons_self)
  · exact .whenText (hbegun.frameByte (hproto.trans hp) b)
  · exact .whenBinary (hbegun.framePacket (hproto.trans hp) p)
  · exact hbegun.exec_ctlInstr (hproto.trans hp) c

end Sys2Proof.Machine

/-! PROOFS. Dispatch and forwarding (44_dispatch_and_forwarding.md). First the lines by what they decode to, then
records, control commands, and the way from the bus to the host. -/

namespace Sys2Proof.Machine

/-! ### Executing a line -/

/-- In Text a line unit and `EXEC_LINE` run the line (44_dispatch_and_forwarding.md R240). -/
theorem exec_of_runsLine {i : Instr} {line : List Byte} {s : State} (hi : runsLine i line)
    (hp : s.cfg.proto = .text) : exec i s = .next (runLine (decodeSlcan line) s) := by
  have hline : exec i s = exec (.execLine line) s := by
    obtain rfl | hdec := hi
    · rfl
    · exact exec_of_decodeLine hdec s
  exact hline.trans (whenText_of_text hp _)

/-- Where the line's decode result is known, the line is the execution of that result. -/
theorem exec_of_runsLine_decoded {i : Instr} {line : List Byte} {s : State} {r : ParseResult} (hi : runsLine i line)
    (hp : s.cfg.proto = .text) (hr : decodeSlcan line = r) : exec i s = .next (runLine r s) := by
  rw [exec_of_runsLine hi hp, hr]

/-- Settles O16, by the opcode the line begins with. -/
theorem lineUnitsExecuteTheirLine : Obligations.LineUnitsExecuteTheirLine :=
  fun _ _ _ s hdec => exec_of_decodeLine hdec s

/-- Settles O17, by what every decoded line does. -/
theorem everyLineOneResponse : Obligations.EveryLineOneResponse := by
  intro i line s hi hp
  obtain ⟨hframe, hdefect, u, hhout, hu⟩ := runDecoded_spec (decodeSlcan line) s
  exact ⟨_, u, exec_of_runsLine hi hp, hhout, hu, hframe.cfg, hframe.lb, hframe.rb, hframe.oq, hframe.rxDropCnt,
    hdefect, hframe.hinText, hframe.hinBin, hframe.cin, hframe.cout, hframe.turns, rfl⟩

/-- Settles O18: the execution of an error is the error token. -/
theorem malformedLineOnlyBells : Obligations.MalformedLineOnlyBells :=
  fun _ _ _ _ hi hp hdec => exec_of_runsLine_decoded hi hp hdec

/-- Settles O23: each version command emits its unit. -/
theorem versionLineAnswers : Obligations.VersionLineAnswers := fun _ _ _ hi hp =>
  ⟨exec_of_runsLine_decoded hi hp, exec_of_runsLine_decoded hi hp⟩

/-! ### Frame lines and records at the transmit gate -/

section
variable {s : State}

/-- In `Open` a frame line that the driver sends is acknowledged. -/
theorem runLine_frame_sent (f : CanFrame) (hopen : s.busState = .opened) (hsent : s.transmitAnswer = .ok) :
    runLine (.ok (.frame f)) s = { s with
      drvLog := s.drvLog ++ [.transmit f s.cfg.txTimeoutMs], ansTransmit := s.ansTransmit.rest
      hout := s.hout ++ [ackUnit], ret := .decoded (.ok (.frame f)) } := by
  have hgate := txGate_opened f hopen
  rw [runLine, runDecoded, runFrame_sent (by rw [hgate, hsent]; rfl), hgate]
  rfl

/-- In `Open` a frame line that the driver does not send is counted and answered by the error token. -/
theorem runLine_frame_unsent (f : CanFrame) (hopen : s.busState = .opened) (hunsent : s.transmitAnswer ≠ .ok) :
    runLine (.ok (.frame f)) s = { s with
      drvLog := s.drvLog ++ [.transmit f s.cfg.txTimeoutMs], ansTransmit := s.ansTransmit.rest
      txDropCnt := s.txDropCnt + 1, hout := s.hout ++ [nakUnit], ret := .decoded (.ok (.frame f)) } := by
  have hgate := txGate_opened f hopen
  have hfails : (txGate f s).1 ≠ .ok := by
    rw [hgate]
    exact mt txOutcome_eq_ok.1 hunsent
  rw [runLine, runDecoded, runFrame_refused hfails, hgate]
  rfl

end

/-- Settles O19: the gate is closed, or the driver sends the frame or does not. -/
theorem frameLineTransmits : Obligations.FrameLineTransmits := by
  intro i line f s hi hp hdec
  rw [exec_of_runsLine_decoded hi hp hdec]
  exact ⟨fun hopen hsent => congrArg _ (runLine_frame_sent f hopen hsent),
    fun hopen hunsent => congrArg _ (runLine_frame_unsent f hopen hunsent),
    fun hbus => congrArg _ (runLine_frame_notOpen rfl hbus)⟩

/-- Settles O34, by the equation of a record in the same three cases. -/
theorem recordTransmits : Obligations.RecordTransmits := by
  intro bytes s hlen hp f defect
  rw [exec_execRecord_of_binary hp hlen]
  refine ⟨fun hopen hsent => ?_, fun hopen hunsent => ?_, fun hbus => by rw [runRecord_notOpen bytes hbus]⟩
  · rw [runRecord_eq]
    simp [hopen, hsent, f, defect]
  · rw [runRecord_eq]
    simp [hopen, hunsent, f, defect]

/-! ### Lines that are a controller operation -/

@[simp] theorem cmdOpen_hout (s : State) : (cmdOpen s).2.hout = s.hout := by rw [cmdOpen_frame]

@[simp] theorem configure_hout (t : BitTiming) (s : State) : (configure t s).2.hout = s.hout := by rw [configure_frame]

@[simp] theorem cmdClose_hout (s : State) : (cmdClose s).hout = s.hout := by rw [cmdClose_eq]

theorem ctlToken_eq_ite (r : CtlOutcome) : ctlToken r = if r = .ok then [0x0D#8] else [0x07#8] := by
  cases r <;> rfl

/-- A line answered by the token of the result `r` leaves what the operation by itself leaves, but for that token and
the line's own result. -/
theorem answerToken_eq {s t : State} (hhout : t.hout = s.hout) (r : CtlOutcome) (ret : Ret) :
    (t.emit (ctlToken r)).setRet ret = { t.setRet (.ctl r) with
      hout := s.hout ++ [if r = .ok then [0x0D#8] else [0x07#8]], ret := ret } := by
  rw [← ctlToken_eq_ite, ← hhout]
  rfl

/-- Settles O20: the line runs what `CMD_OPEN` runs, and its token is that of the result. -/
theorem openLineOpensTheBus : Obligations.OpenLineOpensTheBus := by
  intro i line s hi hp hdec
  refine ⟨_, _, exec_cmdOpen s, rfl, ?_⟩
  rw [exec_of_runsLine_decoded hi hp hdec]
  exact congrArg _ (answerToken_eq (cmdOpen_hout s) _ _)

/-- Settles O21: the line runs what `CMD_CLOSE` runs, which touches no output. -/
theorem closeLineClosesTheBus : Obligations.CloseLineClosesTheBus := by
  intro i line s hi hp hdec
  refine ⟨_, exec_cmdClose s, ?_⟩
  rw [exec_of_runsLine_decoded hi hp hdec, ← cmdClose_hout s]
  rfl

/-! ### The timing that serves a bitrate code -/

section
variable {c : Config} {n : Nat}

theorem timingBelow_eq_none (h : ∀ m < n, timingEntry c m = none) : timingBelow c n = none := by
  induction n with
  | zero => rfl
  | succ n ih =>
    rw [timingBelow, h n n.lt_succ_self]
    exact ih fun m hm => h m (hm.trans n.lt_succ_self)

/-- The search downwards stops at the largest code that has a timing. -/
theorem timingBelow_eq_some {e : BitTiming} {m : Nat} (hm : m < n) (he : timingEntry c m = some e)
    (hbetween : ∀ k, m < k → k < n → timingEntry c k = none) : timingBelow c n = some e := by
  induction n with
  | zero => exact absurd hm m.not_lt_zero
  | succ n ih =>
    rw [timingBelow]
    obtain hlt | rfl := Nat.lt_succ_iff_lt_or_eq.1 hm
    · rw [hbetween n hlt n.lt_succ_self]
      exact ih hlt fun k hk hkn => hbetween k hk (hkn.trans n.lt_succ_self)
    · rw [he]

theorem timingFor_native {e : BitTiming} (h : timingEntry c n = some e) : timingFor c n = some (e, false) := by
  rw [timingFor, h]

theorem timingFor_reject (h : timingEntry c n = none) (hf : c.fallback = .reject) : timingFor c n = none := by
  rw [timingFor, h, hf]

theorem timingFor_legacy (h : timingEntry c n = none) (hf : c.fallback = .legacyDowngrade) :
    timingFor c n = (timingBelow c n).map fun t => (t, true) := by
  rw [timingFor, h, hf]

end

/-! ### Bitrate lines -/

section
variable {n : Fin 9} {s : State}

theorem runSetBitrate_refused (h : timingFor s.cfg n.val = none) : runSetBitrate n s = s.emit nakUnit := by
  rw [runSetBitrate, h]

/-- A timing that serves the code is applied, with the warning set where it is the downgrade's. -/
theorem runSetBitrate_served {e : BitTiming} {warn : Bool} (h : timingFor s.cfg n.val = some (e, warn)) :
    runSetBitrate n s = applyTiming e { s with warnFallback := warn || s.warnFallback } := by
  rw [runSetBitrate, h]
  cases warn <;> rfl

/-- In `Closed` the timing is stored and acknowledged. -/
theorem setRet_applyTiming_closed (e : BitTiming) (ret : Ret) (h : s.busState = .closed) :
    (applyTiming e s).setRet ret = { s with
      bt := e, btValid := true, hout := s.hout ++ [ackUnit], ret := ret } := by
  rw [applyTiming_closed e h]
  rfl

/-- Outside `Closed` the bus is configured with the stored timing, and the token is that of the result. -/
theorem setRet_applyTiming_running (e : BitTiming) (ret : Ret) (h : s.busState ≠ .closed) :
    (applyTiming e s).setRet ret =
      { (configure e (s.writeTiming e)).2.setRet (.ctl (configure e (s.writeTiming e)).1) with
        hout := s.hout ++ [if (configure e (s.writeTiming e)).1 = .ok then [0x0D#8] else [0x07#8]], ret := ret } := by
  rw [applyTiming_running e h]
  exact answerToken_eq (configure_hout e (s.writeTiming e)) _ ret

end

/-- Settles O22: the code is refused where no timing serves it, and otherwise what serves it is the code's own timing or
the downgrade's. -/
theorem bitrateLineSetsTheTiming : Obligations.BitrateLineSetsTheTiming := by
  intro i line n s hi hp hdec ret served
  have hexec := exec_of_runsLine_decoded hi hp hdec
  have refused (h : timingFor s.cfg n.val = none) :
      exec i s = .next { s with hout := s.hout ++ [[0x07#8]], ret := ret } := by
    rw [hexec, runLine, runDecoded, runSetBitrate_refused h]
    rfl
  have serves {e : BitTiming} {warn : Bool} (h : timingFor s.cfg n.val = some (e, warn)) :
      served e (warn || s.warnFallback) := by
    rw [runLine, runDecoded, runSetBitrate_served h] at hexec
    exact ⟨fun hclosed => hexec.trans (congrArg _ (setRet_applyTiming_closed e ret hclosed)), fun hrunning =>
      ⟨_, _, exec_configure e _, rfl, hexec.trans (congrArg _ (setRet_applyTiming_running e ret hrunning))⟩⟩
  refine ⟨fun hnone hf => refused (timingFor_reject hnone hf), fun hnone hf hbelow => refused ?_,
    fun e he => serves (timingFor_native he), fun e m hnone hf hm he hbetween => serves (warn := true) ?_⟩
  · rw [timingFor_legacy hnone hf, timingBelow_eq_none hbelow]
    rfl
  · rw [timingFor_legacy hnone hf, timingBelow_eq_some hm he hbetween]
    rfl

/-! ### Control commands -/

/-- Settles O53, by the enabling condition. -/
theorem hostFormatHasNoEffect : Obligations.HostFormatHasNoEffect := fun _ _ hp => whenBinary_of_binary hp _

/-- Settles O54, by the enabling condition. -/
theorem setBittimingStores : Obligations.SetBittimingStores := fun _ _ hp => whenBinary_of_binary hp _

/-- Settles O56, by the enabling condition. -/
theorem readbacksAndUnknownCommand : Obligations.ReadbacksAndUnknownCommand := fun _ hp =>
  ⟨whenBinary_of_binary hp _, whenBinary_of_binary hp _, whenBinary_of_binary hp _⟩

@[simp] theorem cmdOpen_ret (s : State) : (cmdOpen s).2.ret = s.ret := by rw [cmdOpen_frame]

@[simp] theorem cmdOpen_cout (s : State) : (cmdOpen s).2.cout = s.cout := by rw [cmdOpen_frame]

@[simp] theorem cmdClose_ret (s : State) : (cmdClose s).ret = s.ret := by rw [cmdClose_eq]

@[simp] theorem cmdClose_cout (s : State) : (cmdClose s).cout = s.cout := by rw [cmdClose_eq]

/-- A command that runs an operation and responds leaves what the operation by itself leaves, but for the response; no
result is returned. -/
theorem respond_eq {s t : State} (hret : t.ret = s.ret) (hcout : t.cout = s.cout) (o : CtlOutcome) (r : CtlResp) :
    t.respond r = { t.setRet (.ctl o) with ret := s.ret, cout := s.cout ++ [r] } := by
  rw [← hret, ← hcout]
  rfl

/-- Settles O55: each command runs the operation and responds with its result. -/
theorem modeStartAndStop : Obligations.ModeStartAndStop := by
  intro s hp
  refine ⟨⟨_, _, exec_cmdOpen s, rfl, (whenBinary_of_binary hp _).trans (congrArg _ ?_)⟩,
    ⟨_, exec_cmdClose s, (whenBinary_of_binary hp _).trans (congrArg _ ?_)⟩⟩
  · exact respond_eq (cmdOpen_ret s) (cmdOpen_cout s) _ _
  · exact respond_eq (cmdClose_ret s) (cmdClose_cout s) _ _

/-- From `s` to `t` one response is given, and nothing toward the host, no framer, queue or counter is touched. -/
structure RespondsOnce (s t : State) : Prop where
  cout : ∃ r, t.cout = s.cout ++ [r]
  turns : t.turns = s.turns
  cin : t.cin = s.cin
  hout : t.hout = s.hout
  oq : t.oq = s.oq
  rb : t.rb = s.rb
  lb : t.lb = s.lb
  cfg : t.cfg = s.cfg
  rxDropCnt : t.rxDropCnt = s.rxDropCnt
  txDropCnt : t.txDropCnt = s.txDropCnt
  hfDefect : t.hfDefect = s.hfDefect
  warnFallback : t.warnFallback = s.warnFallback

theorem respondsOnce_respond (s : State) (r : CtlResp) : RespondsOnce s (s.respond r) :=
  ⟨⟨r, rfl⟩, rfl, rfl, rfl, rfl, rfl, rfl, rfl, rfl, rfl, rfl, rfl⟩

/-- Every command is an operation of the Binary protocol that gives one response. -/
theorem exec_ctlInstr_respondsOnce (c : CtlCmd) (s : State) :
    ∃ t, exec (ctlInstr c) s = whenBinary s t ∧ RespondsOnce s t := by
  cases c with
  | hostFormat _ | btConst | deviceConfig | other => exact ⟨_, rfl, respondsOnce_respond s _⟩
  | setBittiming t => exact ⟨_, rfl, { respondsOnce_respond s .ack with }⟩
  | modeStart =>
    refine ⟨_, rfl, ?_⟩
    rw [cmdOpen_frame]
    exact { respondsOnce_respond s (ctlResp (cmdOpen s).1) with }
  | modeStop =>
    refine ⟨_, rfl, ?_⟩
    rw [cmdClose_eq]
    exact { respondsOnce_respond s .ack with }

/-- Settles O57: the turn takes the command, whose instruction responds once; in Text it takes none. -/
theorem everyCommandOneResponse : Obligations.EveryCommandOneResponse := by
  intro c cs rest s ht hin
  refine ⟨fun hp => ?binary, fun hp => ⟨step_fetchNone ht (fetchTurn_ctl_none (.inl hp)), fun u hu => ?text⟩⟩
  case binary =>
    obtain ⟨t, hexec, h⟩ := exec_ctlInstr_respondsOnce c { s with turns := rest, ret := .none, cin := cs }
    replace hexec := hexec.trans (whenBinary_of_binary hp t)
    have hstep := step_eq_exec ht (fetchTurn_ctl_command hp hin) (wellFormed_ctlInstr c) ⟨t, hexec⟩
    obtain ⟨r, hr⟩ := h.cout
    exact ⟨t, r, hstep.trans hexec, h.turns, h.cin, hr, hexec, h.hout, h.oq, h.rb, h.lb, h.cfg, h.rxDropCnt,
      h.txDropCnt, h.hfDefect, h.warnFallback⟩
  case text =>
    obtain ⟨t, hexec, -⟩ := exec_ctlInstr_respondsOnce c u
    rw [hexec, whenBinary_of_text (by rw [hu, hp])]

/-! ### From the bus to the host -/

section
variable {f : CanFrame} {s : State}

theorem encodeUnit_of_text {c : Config} (h : c.proto = .text) : encodeUnit c f = encodeSlcan f := by
  rw [encodeUnit, h]

theorem encodeUnit_of_binary {c : Config} (h : c.proto = .binary) :
    encodeUnit c f = encodeHostframe c.hfLayout f echoSentinel := by
  rw [encodeUnit, h]

theorem exec_evBusRx_room (hbus : s.busState ≠ .closed) (hroom : s.oq.length < oqCap) :
    exec (.evBusRx f) s = .next { s with oq := s.oq ++ [encodeUnit s.cfg f] } :=
  (stepWhen_enabled (decide_eq_true hbus) _ _).trans (congrArg _ (if_pos hroom))

theorem exec_evBusRx_full (hbus : s.busState ≠ .closed) (hfull : oqCap ≤ s.oq.length) :
    exec (.evBusRx f) s = .next s.countRxDrop :=
  (stepWhen_enabled (decide_eq_true hbus) _ _).trans (congrArg _ (if_neg hfull.not_gt))

theorem exec_evBusRx_closed (hbus : s.busState = .closed) : exec (.evBusRx f) s = .fault .noInstance :=
  stepWhen_disabled (decide_eq_false (not_not_intro hbus)) _ _

end

/-- Settles O58: the queue has room or not, and the protocol says what a frame becomes. -/
theorem busFrameQueuedOrCounted : Obligations.BusFrameQueuedOrCounted := by
  intro f s _
  refine ⟨fun hbus hroom hp => ?_, fun hbus hroom hp => ?_, exec_evBusRx_full, exec_evBusRx_closed⟩
  · rw [exec_evBusRx_room hbus hroom, encodeUnit_of_text hp]
  · rw [exec_evBusRx_room hbus hroom, encodeUnit_of_binary hp, echoSentinel]

/-- Settles O59: the queue holds a unit or not. -/
theorem writerMovesTheHead : Obligations.WriterMovesTheHead := fun _ => ⟨fun _ _ => execHtxPop_cons, execHtxPop_nil⟩

end Sys2Proof.Machine

/-! PROOFS. Exceptions (60_exceptions.md): no turn of an agent ends in an error (R296, R312), and in a weakly fair run
every wait for recovery ends (43_bus_state_machine.md R214). -/

namespace Sys2Proof.Machine

/-! ### What an agent's turn fetches is a unit the block can meet -/

theorem wellFormed_of_agentTurn {i : Instr} (hi : agentTurn (.op i) = true) : i.wellFormed = true := by
  cases i with
  | recStart | htxPop | evBusoff | evRecDone | evRecTimeout | evFatal | cmdCheck => rfl
  | evBusRx f => exact hi
  | _ => cases hi

/-- `HRX` passes over the packets of no bytes (42_framers.md R184). -/
theorem fetchTurn_hrx_packet_ne_nil {s s1 : State} {p : List Byte}
    (h : fetchTurn .hrx s = some (.frmPacket p, s1)) : p ≠ [] := by
  unfold fetchTurn at h
  dsimp only at h
  (repeat' split at h) <;> cases h
  rename_i hdrop
  have hhead := List.head?_dropWhile_not List.isEmpty s.hinBin
  rw [hdrop] at hhead
  exact fun hnil => by simp [hnil] at hhead

theorem wellFormed_of_fetchTurn {t : Turn} {s s1 : State} {i : Instr} (ht : agentTurn t = true)
    (h : fetchTurn t s = some (i, s1)) : i.wellFormed = true := by
  cases t with
  | op j =>
    cases h
    exact wellFormed_of_agentTurn ht
  | hrx =>
    obtain ht | ⟨-, b, rfl⟩ | ⟨-, ⟨p, rfl⟩ | ⟨c, rfl⟩⟩ := fetchTurn_cases h
    · cases ht
    · rfl
    · exact decide_eq_true (List.length_pos_of_ne_nil (fetchTurn_hrx_packet_ne_nil h))
    · exact wellFormed_ctlInstr c
  | ctl =>
    unfold fetchTurn at h
    dsimp only at h
    split at h <;> cases h
    exact wellFormed_ctlInstr _

/-! ### Nothing an agent runs is refused -/

/-- A step that is not enabled is not taken (60_exceptions.md R312). -/
theorem passUnlessEnabled_stepWhen (s : State) (e : Bool) (why : Fault) (t : State) :
    ∃ u, passUnlessEnabled s (stepWhen e why t) = .next u := by
  cases e
  · exact ⟨s, rfl⟩
  · exact ⟨t, rfl⟩

theorem passUnlessEnabled_agentOp (s : State) {i : Instr} (hi : agentTurn (.op i) = true) :
    ∃ u, passUnlessEnabled s (exec i s) = .next u := by
  cases i with
  | evBusoff | evRecDone | evFatal | cmdCheck => exact ⟨_, rfl⟩
  | recStart | evRecTimeout | evBusRx _ => exact passUnlessEnabled_stepWhen s _ _ _
  | htxPop =>
    cases hq : s.oq with
    | nil => exact ⟨s, congrArg (passUnlessEnabled s) (execHtxPop_nil hq)⟩
    | cons u rest => exact ⟨_, congrArg (passUnlessEnabled s) (execHtxPop_cons hq)⟩
  | _ => cases hi

theorem passUnlessEnabled_ctlInstr (s : State) (c : CtlCmd) :
    ∃ u, passUnlessEnabled s (exec (ctlInstr c) s) = .next u := by
  cases c <;> exact passUnlessEnabled_stepWhen s _ _ _

theorem passUnlessEnabled_of_fetchTurn {t : Turn} {s s1 : State} {i : Instr} (ht : agentTurn t = true)
    (h : fetchTurn t s = some (i, s1)) : ∃ u, passUnlessEnabled s1 (exec i s1) = .next u := by
  obtain rfl | ⟨-, b, rfl⟩ | ⟨-, ⟨p, rfl⟩ | ⟨c, rfl⟩⟩ := fetchTurn_cases h
  · exact passUnlessEnabled_agentOp s1 ht
  · exact passUnlessEnabled_stepWhen s1 _ _ _
  · exact passUnlessEnabled_stepWhen s1 _ _ _
  · exact passUnlessEnabled_ctlInstr s1 c

theorem step_completes_of_agentTurns {s : State} (h : ∀ t ∈ s.turns, agentTurn t = true) : ∃ u, step s = .next u := by
  cases ht : s.turns with
  | nil => exact ⟨s, step_noTurn ht⟩
  | cons t rest =>
    have hagent : agentTurn t = true := h t (by simp [ht])
    cases hf : fetchTurn t (s.beginTurn rest) with
    | none => exact ⟨_, step_fetchNone ht hf⟩
    | some fetched =>
      rw [step_fetchSome ht hf (wellFormed_of_fetchTurn hagent hf)]
      exact passUnlessEnabled_of_fetchTurn hagent hf

/-! ### The wait for recovery -/

/-- What holds at one point and no more at a later one ends with a first step. -/
theorem exists_first_exit {p : Nat → Prop} {n m : Nat} (hnm : n ≤ m) (hn : p n) (hm : ¬p m) :
    ∃ k, n ≤ k ∧ (∀ j, n ≤ j → j ≤ k → p j) ∧ ¬p (k + 1) := by
  induction hnm using Nat.decreasingInduction with
  | self => exact absurd hn hm
  | of_succ n _ ih =>
    by_cases hnext : p (n + 1)
    · obtain ⟨k, hnk, hbetween, hexit⟩ := ih hnext
      refine ⟨k, Nat.le_of_succ_le hnk, fun j hnj hjk => ?_, hexit⟩
      obtain rfl | hlt := Nat.eq_or_lt_of_le hnj
      · exact hn
      · exact hbetween j hlt hjk
    · refine ⟨n, le_rfl, fun j hnj hjn => ?_, hnext⟩
      rwa [← Nat.le_antisymm hnj hjn]

section
variable {ρ : Nat → State} (hrun : Run ρ)
include hrun

/-- Where a step is the turn of an operation that completes, the run goes on from the result. -/
theorem Run.supplied_of_takesAt {n : Nat} {i : Instr} {result : List Turn → State} (htake : takesAt ρ n (.op i))
    (hw : i.wellFormed = true) (hexec : ∀ rest, exec i ((ρ n).beginTurn rest) = .next (result rest)) :
    ∃ rest, Supplied (result rest) (ρ (n + 1)) := by
  obtain ⟨u, hstep, hsup⟩ := hrun.steps n
  obtain ⟨rest, ht⟩ := List.head?_eq_some_iff.1 htake
  cases hstep.symm.trans (step_op ht hw (hexec rest))
  exact ⟨rest, hsup⟩

theorem Run.opened_of_evRecDone {n : Nat} (hbus : (ρ n).busState = .recovering)
    (htake : takesAt ρ n (.op .evRecDone)) : (ρ (n + 1)).busState = .opened ∧ (ρ (n + 1)).recResult = .ok := by
  obtain ⟨rest, hsup⟩ := hrun.supplied_of_takesAt htake rfl fun rest => (recoveryDone ((ρ n).beginTurn rest)).1 hbus
  rw [hsup.frame]
  exact ⟨rfl, rfl⟩

theorem Run.busOff_of_evRecTimeout {n : Nat} (hbus : (ρ n).busState = .recovering)
    (htake : takesAt ρ n (.op .evRecTimeout)) :
    (ρ (n + 1)).busState = .busOff ∧ (ρ (n + 1)).recResult = .timeout ∧
      (ρ (n + 1)).ctrlErr = some .recoveryTimeout := by
  obtain ⟨rest, hsup⟩ :=
    hrun.supplied_of_takesAt htake rfl fun rest => (recoveryTimeout ((ρ n).beginTurn rest)).1 hbus
  rw [hsup.frame]
  exact ⟨rfl, rfl, rfl⟩

/-- Fairness brings one of the two events, or the wait has ended before (43_bus_state_machine.md R214). -/
theorem Run.exists_not_recovering (hfair : WeaklyFair ρ) (n : Nat) : ∃ m, n ≤ m ∧ (ρ m).busState ≠ .recovering := by
  obtain ⟨m, hnm, hends⟩ := hfair.recovery n
  by_cases hbus : (ρ m).busState = .recovering
  · refine ⟨m + 1, Nat.le_succ_of_le hnm, ?_⟩
    obtain hleft | hdone | htimeout := hends
    · exact absurd hbus hleft
    · simp [(hrun.opened_of_evRecDone hbus hdone).1]
    · simp [(hrun.busOff_of_evRecTimeout hbus htimeout).1]
  · exact ⟨m, hnm, hbus⟩

end

/-- Settles O7: what an agent runs is well-formed and not refused; fairness ends the wait, and its last step is the one
that each of the two events takes. -/
theorem agentStepsNeverStop : Obligations.AgentStepsNeverStop := by
  refine ⟨fun _ => step_completes_of_agentTurns, fun ρ n hrun hfair hbus => ?_⟩
  obtain ⟨l, hnl, hleft⟩ := hrun.exists_not_recovering hfair n
  obtain ⟨m, hnm, hwait, hexit⟩ := exists_first_exit (p := fun k => (ρ k).busState = .recovering) hnl hbus hleft
  have hlast : (ρ m).busState = .recovering := hwait m hnm le_rfl
  exact ⟨m, hnm, hwait, hexit, hrun.opened_of_evRecDone hlast, hrun.busOff_of_evRecTimeout hlast⟩

end Sys2Proof.Machine

/-! PROOFS. Reset and hazards (70_reset_and_hazards.md): the values of R330 and the invariant at reset, and the tokens
that R336 keeps apart from every other unit of the Text protocol. -/

namespace Sys2Proof

/-! ### The parameters at reset are in their ranges -/

theorem versionHeadOk_iff {b : Byte} : versionHeadOk b = true ↔ b ≠ cr ∧ b ≠ bell := by
  simp [versionHeadOk]

/-- `versionHead` steps over the two control characters: below `\a`, between `\a` and `\r`, above `\r`. -/
theorem versionHeadOk_versionHead (i : Fin 254) : versionHeadOk (versionHead i) = true := by
  rw [versionHeadOk_iff, versionHead]
  split
  · constructor <;> bv_omega
  · split <;> constructor <;> bv_omega

theorem Config.wf_iff {c : Config} :
    c.wf = true ↔ 1 ≤ c.pktMax ∧ 10 ≤ c.txTimeoutMs ∧ c.txTimeoutMs ≤ 100 ∧ versionHeadOk c.verHw[0] = true ∧
      versionHeadOk c.verSw[0] = true := by
  simp [Config.wf, and_assoc]

theorem Config.wf_atReset : Config.atReset.wf = true :=
  Config.wf_iff.2 ⟨Nat.le_add_right 1 _, Nat.le_add_right 10 _, Nat.add_le_add_left (Fin.is_le _) 10,
    versionHeadOk_versionHead _, versionHeadOk_versionHead _⟩

end Sys2Proof

namespace Sys2Proof.Machine

/-! ### The state after reset -/

/-- Settles O1: every field of `State.reset` is given by its value. -/
theorem resetLeavesSpecValues : Obligations.ResetLeavesSpecValues :=
  ⟨rfl, rfl, rfl, rfl, rfl, rfl, rfl, rfl, rfl, rfl, rfl, rfl, rfl, rfl, rfl, rfl⟩

/-- Settles O2: the parameters are in their ranges, the bus is `Closed` with nothing installed, and every buffer,
queue and stream is empty. -/
theorem resetMeetsInvariant : Obligations.ResetMeetsInvariant where
  cfg := Config.wf_atReset
  lbCap := Nat.zero_le _
  lbClean := by simp [State.reset]
  rbShort := hfSize_pos _
  lbUnused _ := rfl
  rbUnused _ := rfl
  coutUnused _ := rfl
  recReqBusOff h := nomatch h
  btValid h := absurd rfl h
  instClosed _ := rfl
  instOpen h := absurd rfl h
  instTiming _ _ h := nomatch h
  timer := rfl
  oqCap := Nat.zero_le _
  oqUnits := by simp [State.reset]
  houtUnits := by simp [State.reset]
  warnReject _ := rfl
  turns := by simp [State.reset]

/-! ### What the units of the Text protocol start with -/

/-- 70_reset_and_hazards.md R336: only a bare `\r` starts with `\r`, only a bare `\a` with `\a`; no unit is empty. -/
def TokenHeaded (u : List Byte) : Prop :=
  (u.head? = some cr → u = ackUnit) ∧ (u.head? = some bell → u = nakUnit) ∧ u ≠ []

theorem TokenHeaded.of_head? {u : List Byte} {b : Byte} (hu : u.head? = some b) (hb : versionHeadOk b = true) :
    TokenHeaded u := by
  obtain ⟨hcr, hbell⟩ := versionHeadOk_iff.1 hb
  refine ⟨fun h => ?_, fun h => ?_, fun h => ?_⟩
  · exact absurd (Option.some.inj (hu.symm.trans h)) hcr
  · exact absurd (Option.some.inj (hu.symm.trans h)) hbell
  · simp [h] at hu

theorem tokenHeaded_ackUnit : TokenHeaded ackUnit := ⟨fun _ => rfl, by decide, by decide⟩

theorem tokenHeaded_nakUnit : TokenHeaded nakUnit := ⟨by decide, fun _ => rfl, by decide⟩

/-- The opcode letter of a line is no control character (40_text_codec.md R140). -/
theorem versionHeadOk_frameOpcode (f : CanFrame) : versionHeadOk (frameOpcode f) = true := by
  unfold frameOpcode
  split <;> rfl

theorem tokenHeaded_encodeSlcan (f : CanFrame) : TokenHeaded (encodeSlcan f) :=
  .of_head? rfl (versionHeadOk_frameOpcode f)

theorem head?_versionUnit (code : Vector Byte 4) : (versionUnit code).head? = some code[0] := by
  simp [versionUnit, List.head?_eq_getElem?]

theorem tokenHeaded_versionUnit {code : Vector Byte 4} (h : versionHeadOk code[0] = true) :
    TokenHeaded (versionUnit code) :=
  .of_head? (head?_versionUnit code) h

theorem tokenHeaded_of_isHostUnit {c : Config} {u : List Byte} (hwf : c.wf = true) (hp : c.proto = .text)
    (hu : isHostUnit c u) : TokenHeaded u := by
  obtain ⟨-, -, -, hverHw, hverSw⟩ := Config.wf_iff.1 hwf
  obtain ⟨f, -, rfl⟩ | ⟨-, rfl | rfl | rfl | rfl⟩ := hu
  · rw [encodeUnit_of_text hp]
    exact tokenHeaded_encodeSlcan f
  · exact tokenHeaded_ackUnit
  · exact tokenHeaded_nakUnit
  · exact tokenHeaded_versionUnit hverHw
  · exact tokenHeaded_versionUnit hverSw

/-- Settles O60: the invariant says what the units on `HOUT` are, and each kind is told apart by its first byte. -/
theorem tokensAreUnambiguous : Obligations.TokensAreUnambiguous := fun _ u hinv hp hu =>
  tokenHeaded_of_isHostUnit hinv.cfg hp (hinv.houtUnits u hu)

end Sys2Proof.Machine
